-- ==== Sys2Proof/Word.lean ====
section
/-! DEFINITION. The widths of the hardware (00_scope.md section 4, "Fixed widths"). -/

namespace Sys2Proof

/-- A byte of a frame, and the 8-bit header fields `op` and `a` (30_encoding.md R61). -/
abbrev Byte := BitVec 8

/-- A 16-bit value: the header field `b` (30_encoding.md R61), the type tag, a checksum. -/
abbrev Half := BitVec 16

/-- A descriptor or register word, and every IPv4 quantity (20_memory.md R44). -/
abbrev Word := BitVec 32

/-- A link address (20_memory.md R46). -/
abbrev LinkAddr := BitVec 48

/-- `TIME`, `SWEEP_LAST` and `LASTSEEN` (10_state.md R17, R18, R24). -/
abbrev Stamp := BitVec 64

/-- An interface id (10_state.md R21, field `IFACE`; 30_encoding.md R62, `a[3:0]`). -/
abbrev IfaceId := BitVec 4

/-- A frame: its bytes in wire order, `F[0]` first (20_memory.md R42). -/
abbrev Frame := List Byte

end Sys2Proof
end

