-- ==== Sys2Proof/Config.lean ====
section
/-! DEFINITION. What an implementation fixes: the five parameters of 00_scope.md R3 and the identity
value of 10_state.md R12. The spec leaves no value undefined, so there is no free value here. -/

namespace Sys2Proof

/-- The parameters of one engine instance (00_scope.md R3), fixed for its life. -/
structure Params where
  /-- `N_IF`, the number of interfaces; ids are `0 .. N_IF-1`. -/
  nIf : Nat
  /-- `RT_DEPTH`, route table slots. -/
  rtDepth : Nat
  /-- `NB_DEPTH`, neighbour cache slots. -/
  nbDepth : Nat
  /-- `MT_DEPTH`, MAC table slots. -/
  mtDepth : Nat
  /-- `MAX_FRAME`, the longest byte string of `FRAME`, `CSUM` and `HDR_VFY`. -/
  maxFrame : Nat
deriving DecidableEq, Repr

/-- The legal ranges of 00_scope.md section 4. -/
abbrev Params.Legal (p : Params) : Prop :=
  (1 ≤ p.nIf ∧ p.nIf ≤ 16) ∧ (1 ≤ p.rtDepth ∧ p.rtDepth ≤ 256) ∧
  (1 ≤ p.nbDepth ∧ p.nbDepth ≤ 256) ∧ (1 ≤ p.mtDepth ∧ p.mtDepth ≤ 256) ∧
  (64 ≤ p.maxFrame ∧ p.maxFrame ≤ 65535)

/-- The setting of the spec's test vectors (00_scope.md section 4, column "Test value").
DESIGN CHOICE (log entry 1): the reset state of the model is taken at this setting. -/
def Params.test : Params :=
  { nIf := 4, rtDepth := 16, nbDepth := 16, mtDepth := 4, maxFrame := 1518 }

/-- The constant of register `ID` (10_state.md R12). -/
def idValue : Word := 0x4C504D31

/-- The key that field `b` of `SOFT_RESET` must hold (30_encoding.md R64). -/
def softResetKey : Half := 0x5253

/-- The type tag that indicates IPv4 (30_encoding.md R73). -/
def etypeIPv4 : Half := 0x0800

end Sys2Proof
end

