-- ==== Sys2Proof/Syntax.lean ====
section
/-! DEFINITION. The descriptors: one constructor of `Instr` per row of spec/opcode_table.json. -/

namespace Sys2Proof

/-- The twenty assigned values of the header byte `op` (30_encoding.md R62). -/
inductive Opcode where
  | nop | ctrlRd | ctrlWr | timeRd | softReset | ifWr | ifRd
  | rtWr | rtRd | rtClr | rtLkup
  | nbWr | nbRd | nbClr | nbLkup
  | mtRd | mtLkup
  | csum | hdrVfy
  | frame
deriving DecidableEq, Repr

/-- A descriptor as it reaches the engine: one or more 32-bit words (30_encoding.md R60). The header
word is always there: a descriptor of zero words cannot be expressed. -/
structure Descriptor where
  /-- `W0`. -/
  header : Word
  /-- `W1, W2, ...`. -/
  rest : List Word
deriving DecidableEq, Repr

/-- An instruction: a descriptor whose opcode is assigned and whose word count is the one its opcode
requires. It keeps the whole header fields `a` and `b`, reserved bits included, because the rule of
each opcode says what a set reserved bit does (`ERR_FIELD`, 30_encoding.md R64; log entry 8).
The variable-length opcodes hold their byte string; its length is the field `b`. -/
inductive Instr where
  /-- 40_control_ops.md R90. -/
  | nop (a : Byte) (b : Half)
  /-- 40_control_ops.md R91: `a` is the register number. -/
  | ctrlRd (a : Byte) (b : Half)
  /-- 40_control_ops.md R92: `a` is the register number, `W1` the value. -/
  | ctrlWr (a : Byte) (b : Half) (value : Word)
  /-- 40_control_ops.md R96. -/
  | timeRd (a : Byte) (b : Half)
  /-- 40_control_ops.md R97: `b` must be the key. -/
  | softReset (a : Byte) (b : Half)
  /-- 40_control_ops.md R98: `a[3:0]` the interface, `b[0]` is `EN`. -/
  | ifWr (a : Byte) (b : Half) (ip macHi macLo : Word)
  /-- 40_control_ops.md R99. -/
  | ifRd (a : Byte) (b : Half)
  /-- 41_route_table_lpm.md R114: `a` the slot, `b[0]` is `V`, `b[7:4]` is `IFACE`. -/
  | rtWr (a : Byte) (b : Half) (pfx mask nextHop : Word)
  /-- 41_route_table_lpm.md R115. -/
  | rtRd (a : Byte) (b : Half)
  /-- 41_route_table_lpm.md R116. -/
  | rtClr (a : Byte) (b : Half)
  /-- 41_route_table_lpm.md R117. -/
  | rtLkup (a : Byte) (b : Half) (dst : Word)
  /-- 42_neighbor_cache.md R126: `a` the slot, `b[0]` is `V`. -/
  | nbWr (a : Byte) (b : Half) (ip macHi macLo : Word)
  /-- 42_neighbor_cache.md R127. -/
  | nbRd (a : Byte) (b : Half)
  /-- 42_neighbor_cache.md R128. -/
  | nbClr (a : Byte) (b : Half)
  /-- 42_neighbor_cache.md R129. -/
  | nbLkup (a : Byte) (b : Half) (ip : Word)
  /-- 45_learning_switch.md R193. -/
  | mtRd (a : Byte) (b : Half)
  /-- 45_learning_switch.md R194. -/
  | mtLkup (a : Byte) (b : Half) (macHi macLo : Word)
  /-- 43_checksum.md R140. -/
  | csum (a : Byte) (bytes : List Byte)
  /-- 43_checksum.md R141. -/
  | hdrVfy (a : Byte) (bytes : List Byte)
  /-- 44_router_forwarder.md R150: `a[3:0]` the ingress interface, `bytes` the frame. -/
  | frame (a : Byte) (bytes : Frame)
deriving DecidableEq, Repr

/-- The opcode of an instruction. -/
def Instr.opcode : Instr → Opcode
  | .nop _ _ => .nop
  | .ctrlRd _ _ => .ctrlRd
  | .ctrlWr _ _ _ => .ctrlWr
  | .timeRd _ _ => .timeRd
  | .softReset _ _ => .softReset
  | .ifWr _ _ _ _ _ => .ifWr
  | .ifRd _ _ => .ifRd
  | .rtWr _ _ _ _ _ => .rtWr
  | .rtRd _ _ => .rtRd
  | .rtClr _ _ => .rtClr
  | .rtLkup _ _ _ => .rtLkup
  | .nbWr _ _ _ _ _ => .nbWr
  | .nbRd _ _ => .nbRd
  | .nbClr _ _ => .nbClr
  | .nbLkup _ _ _ => .nbLkup
  | .mtRd _ _ => .mtRd
  | .mtLkup _ _ _ _ => .mtLkup
  | .csum _ _ => .csum
  | .hdrVfy _ _ => .hdrVfy
  | .frame _ _ => .frame

/-- The byte string of a variable-length instruction (30_encoding.md R67). -/
def Instr.payload : Instr → Option (List Byte)
  | .csum _ bytes => some bytes
  | .hdrVfy _ bytes => some bytes
  | .frame _ bytes => some bytes
  | .nop _ _ | .ctrlRd _ _ | .ctrlWr _ _ _ | .timeRd _ _ | .softReset _ _ | .ifWr _ _ _ _ _ | .ifRd _ _
  | .rtWr _ _ _ _ _ | .rtRd _ _ | .rtClr _ _ | .rtLkup _ _ _
  | .nbWr _ _ _ _ _ | .nbRd _ _ | .nbClr _ _ | .nbLkup _ _ _
  | .mtRd _ _ | .mtLkup _ _ _ _ => none

end Sys2Proof
end

