-- ==== Sys2Proof/WellFormed.lean ====
section
/-! DEFINITION. Which instructions an encoding exists for, and which are free of the descriptor errors
that no state is needed to see (30_encoding.md R63, R64 and the reserved operand bits of 20_memory.md R46). -/

namespace Sys2Proof

/-- The byte count of a variable-length instruction fits the 16-bit field `b` (30_encoding.md R61). -/
def Instr.encodable (i : Instr) : Bool :=
  match i.payload with
  | some bytes => decide (bytes.length < 65536)
  | none => true

/-- Every bit that 30_encoding.md R62 gives as 0 is 0, `SOFT_RESET` carries its key (R64), the byte
count is in range (R63), and `MAC_HI[31:16]` is 0 (20_memory.md R46). -/
def Instr.wellFormed (p : Params) : Instr → Bool
  | .nop a b => a == 0 && b == 0
  | .ctrlRd _ b => b == 0
  | .ctrlWr _ b _ => b == 0
  | .timeRd a b => a == 0 && b == 0
  | .softReset a b => a == 0 && b == softResetKey
  | .ifWr a b _ macHi _ => a.extractLsb' 4 4 == 0 && b.extractLsb' 1 15 == 0 && macHi.extractLsb' 16 16 == 0
  | .ifRd a b => a.extractLsb' 4 4 == 0 && b == 0
  | .rtWr _ b _ _ _ => b.extractLsb' 1 3 == 0 && b.extractLsb' 8 8 == 0
  | .rtRd _ b => b == 0
  | .rtClr a b => a == 0 && b == 0
  | .rtLkup a b _ => a == 0 && b == 0
  | .nbWr _ b _ macHi _ => b.extractLsb' 1 15 == 0 && macHi.extractLsb' 16 16 == 0
  | .nbRd _ b => b == 0
  | .nbClr a b => a == 0 && b == 0
  | .nbLkup a b _ => a == 0 && b == 0
  | .mtRd _ b => b == 0
  | .mtLkup a b macHi _ => a == 0 && b == 0 && macHi.extractLsb' 16 16 == 0
  | .csum a bytes => a == 0 && decide (bytes.length ≤ p.maxFrame)
  | .hdrVfy a bytes => a == 0 && decide (12 ≤ bytes.length ∧ bytes.length ≤ p.maxFrame)
  | .frame a bytes => a.extractLsb' 4 4 == 0 && decide (bytes.length ≤ p.maxFrame)

end Sys2Proof
end

