-- ==== Sys2Proof/Decode.lean ====
section
/-! DEFINITION. Decoding and encoding descriptors (30_encoding.md sections 1 to 3, 20_memory.md R43). -/

namespace Sys2Proof

/-! ### Header fields (30_encoding.md R61) -/

/-- `W0[31:24]`. -/
def headerOp (w : Word) : Byte := w.extractLsb' 24 8

/-- `W0[23:16]`. -/
def headerA (w : Word) : Byte := w.extractLsb' 16 8

/-- `W0[15:0]`. -/
def headerB (w : Word) : Half := w.extractLsb' 0 16

/-- The header word of its three fields (30_encoding.md R61). -/
def headerWord (op a : Byte) (b : Half) : Word := op ++ a ++ b

/-! ### Opcodes (30_encoding.md R62) -/

/-- The header byte of an opcode. -/
def Opcode.byte : Opcode → Byte
  | .nop => 0x00
  | .ctrlRd => 0x01
  | .ctrlWr => 0x02
  | .timeRd => 0x03
  | .softReset => 0x04
  | .ifWr => 0x08
  | .ifRd => 0x09
  | .rtWr => 0x10
  | .rtRd => 0x11
  | .rtClr => 0x12
  | .rtLkup => 0x13
  | .nbWr => 0x20
  | .nbRd => 0x21
  | .nbClr => 0x22
  | .nbLkup => 0x23
  | .mtRd => 0x30
  | .mtLkup => 0x31
  | .csum => 0x40
  | .hdrVfy => 0x41
  | .frame => 0x80

/-- The opcode a header byte selects; every other value is illegal (30_encoding.md R65). -/
def Opcode.ofByte (op : Byte) : Option Opcode :=
  match op.toNat with
  | 0x00 => some .nop
  | 0x01 => some .ctrlRd
  | 0x02 => some .ctrlWr
  | 0x03 => some .timeRd
  | 0x04 => some .softReset
  | 0x08 => some .ifWr
  | 0x09 => some .ifRd
  | 0x10 => some .rtWr
  | 0x11 => some .rtRd
  | 0x12 => some .rtClr
  | 0x13 => some .rtLkup
  | 0x20 => some .nbWr
  | 0x21 => some .nbRd
  | 0x22 => some .nbClr
  | 0x23 => some .nbLkup
  | 0x30 => some .mtRd
  | 0x31 => some .mtLkup
  | 0x40 => some .csum
  | 0x41 => some .hdrVfy
  | 0x80 => some .frame
  | _ => none

/-- The payload words that `n` bytes occupy: `ceil(n / 4)` (20_memory.md R43). -/
def payloadWords (n : Nat) : Nat := (n + 3) / 4

/-- How many words follow the header word: column "Words" of 30_encoding.md R62, less one. -/
def Opcode.operandWords : Opcode → Half → Nat
  | .nop, _ => 0
  | .ctrlRd, _ => 0
  | .ctrlWr, _ => 1
  | .timeRd, _ => 0
  | .softReset, _ => 0
  | .ifWr, _ => 3
  | .ifRd, _ => 0
  | .rtWr, _ => 3
  | .rtRd, _ => 0
  | .rtClr, _ => 0
  | .rtLkup, _ => 1
  | .nbWr, _ => 3
  | .nbRd, _ => 0
  | .nbClr, _ => 0
  | .nbLkup, _ => 1
  | .mtRd, _ => 0
  | .mtLkup, _ => 2
  | .csum, b => payloadWords b.toNat
  | .hdrVfy, b => payloadWords b.toNat
  | .frame, b => payloadWords b.toNat

/-! ### Packed bytes (20_memory.md R43) -/

/-- The four bytes of a payload word, bits 31:24 first. -/
def wordBytes (w : Word) : List Byte :=
  [w.extractLsb' 24 8, w.extractLsb' 16 8, w.extractLsb' 8 8, w.extractLsb' 0 8]

/-- The first `n` bytes of the payload words; the padding of the last word is dropped. -/
def unpackBytes (ws : List Word) (n : Nat) : List Byte := (ws.flatMap wordBytes).take n

/-- One payload word of four bytes, the first in bits 31:24. -/
def packWord (b0 b1 b2 b3 : Byte) : Word := b0 ++ b1 ++ b2 ++ b3

/-- Bytes packed into words; the unused bytes of the last word are 0. -/
def packBytes : List Byte → List Word
  | [] => []
  | [b0] => [packWord b0 0 0 0]
  | [b0, b1] => [packWord b0 b1 0 0]
  | [b0, b1, b2] => [packWord b0 b1 b2 0]
  | b0 :: b1 :: b2 :: b3 :: rest => packWord b0 b1 b2 b3 :: packBytes rest

/-! ### Decode -/

/-- Why a descriptor is no instruction: checks 1 and 2 of 30_encoding.md R66. -/
inductive DecodeError where
  /-- `op` is not assigned (30_encoding.md R65). -/
  | opcode
  /-- The word count is not the one the opcode and `b` require (30_encoding.md R63). -/
  | length
deriving DecidableEq, Repr

/-- Operand word `W(j+1)`. -/
def operandWord (ws : List Word) (j : Nat) : Word := ws.getD j 0

/-- The instruction of an opcode, the header fields and the right number of words after the header
(30_encoding.md R62, column "Operand words"). -/
def assemble (op : Opcode) (a : Byte) (b : Half) (ws : List Word) : Instr :=
  match op with
  | .nop => .nop a b
  | .ctrlRd => .ctrlRd a b
  | .ctrlWr => .ctrlWr a b (operandWord ws 0)
  | .timeRd => .timeRd a b
  | .softReset => .softReset a b
  | .ifWr => .ifWr a b (operandWord ws 0) (operandWord ws 1) (operandWord ws 2)
  | .ifRd => .ifRd a b
  | .rtWr => .rtWr a b (operandWord ws 0) (operandWord ws 1) (operandWord ws 2)
  | .rtRd => .rtRd a b
  | .rtClr => .rtClr a b
  | .rtLkup => .rtLkup a b (operandWord ws 0)
  | .nbWr => .nbWr a b (operandWord ws 0) (operandWord ws 1) (operandWord ws 2)
  | .nbRd => .nbRd a b
  | .nbClr => .nbClr a b
  | .nbLkup => .nbLkup a b (operandWord ws 0)
  | .mtRd => .mtRd a b
  | .mtLkup => .mtLkup a b (operandWord ws 0) (operandWord ws 1)
  | .csum => .csum a (unpackBytes ws b.toNat)
  | .hdrVfy => .hdrVfy a (unpackBytes ws b.toNat)
  | .frame => .frame a (unpackBytes ws b.toNat)

/-- Decoding: the opcode first, then the word count (30_encoding.md R66, checks 1 and 2). The checks
of the byte range and of reserved bits belong to the meaning of each opcode (log entry 8). -/
def decode (d : Descriptor) : Except DecodeError Instr :=
  match Opcode.ofByte (headerOp d.header) with
  | none => .error .opcode
  | some op =>
    if d.rest.length = op.operandWords (headerB d.header) then
      .ok (assemble op (headerA d.header) (headerB d.header) d.rest)
    else .error .length

/-! ### Encode -/

/-- The descriptor of an opcode, header fields and operand words. -/
def descriptorOf (op : Opcode) (a : Byte) (b : Half) (ws : List Word) : Descriptor :=
  { header := headerWord op.byte a b, rest := ws }

/-- The descriptor of a byte string: `b` is its length (30_encoding.md R62, format `H+P`). -/
def payloadDescriptor (op : Opcode) (a : Byte) (bytes : List Byte) : Descriptor :=
  descriptorOf op a (BitVec.ofNat 16 bytes.length) (packBytes bytes)

/-- The words of an instruction (30_encoding.md R61, R62). -/
def encode : Instr → Descriptor
  | .nop a b => descriptorOf .nop a b []
  | .ctrlRd a b => descriptorOf .ctrlRd a b []
  | .ctrlWr a b value => descriptorOf .ctrlWr a b [value]
  | .timeRd a b => descriptorOf .timeRd a b []
  | .softReset a b => descriptorOf .softReset a b []
  | .ifWr a b ip macHi macLo => descriptorOf .ifWr a b [ip, macHi, macLo]
  | .ifRd a b => descriptorOf .ifRd a b []
  | .rtWr a b pfx mask nextHop => descriptorOf .rtWr a b [pfx, mask, nextHop]
  | .rtRd a b => descriptorOf .rtRd a b []
  | .rtClr a b => descriptorOf .rtClr a b []
  | .rtLkup a b dst => descriptorOf .rtLkup a b [dst]
  | .nbWr a b ip macHi macLo => descriptorOf .nbWr a b [ip, macHi, macLo]
  | .nbRd a b => descriptorOf .nbRd a b []
  | .nbClr a b => descriptorOf .nbClr a b []
  | .nbLkup a b ip => descriptorOf .nbLkup a b [ip]
  | .mtRd a b => descriptorOf .mtRd a b []
  | .mtLkup a b macHi macLo => descriptorOf .mtLkup a b [macHi, macLo]
  | .csum a bytes => payloadDescriptor .csum a bytes
  | .hdrVfy a bytes => payloadDescriptor .hdrVfy a bytes
  | .frame a bytes => payloadDescriptor .frame a bytes

/-! ### One word of the opcode table -/

/-- The descriptor whose bits are `w`, `W0` in the low 32 bits: `nbits` bits of it count, every bit
above is 0. It has as many words as its header requires, since the transport, not the engine, delimits
a descriptor (30_encoding.md R60; log entry 9). A header that selects no opcode is one word. -/
def tableDescriptor (nbits w : Nat) : Descriptor :=
  let v := w % 2 ^ nbits
  let header : Word := BitVec.ofNat 32 v
  let count := match Opcode.ofByte (headerOp header) with
    | none => 0
    | some op => op.operandWords (headerB header)
  { header := header,
    rest := (List.range count).map (fun j => BitVec.ofNat 32 (v / 2 ^ (32 * (j + 1)))) }

/-- The instruction the decoder reads from the descriptor whose bits are `w`. -/
def decodeTableWord (nbits w : Nat) : Option Instr :=
  match decode (tableDescriptor nbits w) with
  | .ok i => some i
  | .error _ => none

end Sys2Proof
end

