-- ==== Sys2Proof/Machine/State.lean ====
section
/-! DEFINITION. The state of the engine (10_state.md), its inputs and its output logs, and the reset state. -/

namespace Sys2Proof.Machine

/-! ### Containers -/

/-- One value for each of the sixteen interface ids. -/
abbrev PerIface (α : Type) := Vector α 16

/-- One value for each agent that can issue descriptors: `HOST` and every `RX[i]` (00_scope.md R1). -/
structure PerIssuer (α : Type) where
  /-- The value of `HOST`. -/
  host : α
  /-- The value of each `RX[i]`. -/
  rx : PerIface α
deriving DecidableEq, Repr

/-! ### Names -/

/-- An agent that issues descriptors (00_scope.md R1, R4). -/
inductive Issuer where
  /-- `HOST`: may issue every descriptor. -/
  | host
  /-- `RX[i]`: issues `FRAME` descriptors of interface `i` only. -/
  | rx (i : IfaceId)
deriving DecidableEq, Repr

/-- Whose turn it is: one step of the total order of steps (20_memory.md R50). -/
inductive Turn where
  /-- A step of an agent that issues descriptors. -/
  | agent (A : Issuer)
  /-- A `TICK` of the `TIMER` agent (45_learning_switch.md R190). -/
  | timer
  /-- A hardware reset (70_reset_and_hazards.md R220; log entry 12). -/
  | reset
deriving DecidableEq, Repr

/-- The ten drop causes (60_exceptions.md R200). -/
inductive DropCause where
  | type | csum | ttl | self | noRoute | noNeigh | runt | malformed | notRun | badPort
deriving DecidableEq, Repr

/-- The status codes of a response (60_exceptions.md R205). -/
inductive CmdStatus where
  | ok | opcode | length | field | register | index | busy
deriving DecidableEq, Repr

/-- The numbered control registers (10_state.md R12 to R16, R19, R20). -/
inductive Csr where
  | id | capIf | capRt | capNb | capMt | capFrame
  | ctrl | status | ageLimit | sweepPeriod
  | cntRouted | cntSwitched | cntFlooded | cntLearnOvf | cntEvict | cntSweep
  | cntDrop (c : DropCause)
deriving DecidableEq, Repr

/-! ### Table slots -/

/-- A slot of the route table `RT` (10_state.md R21). -/
structure RtSlot where
  v : Bool
  pfx : Word
  mask : Word
  nextHop : Word
  iface : IfaceId
deriving DecidableEq, Repr

/-- A slot of the neighbour cache `NB` (10_state.md R22). -/
structure NbSlot where
  v : Bool
  ip : Word
  mac : LinkAddr
deriving DecidableEq, Repr

/-- A slot of the interface directory `IF` (10_state.md R23). -/
structure IfSlot where
  en : Bool
  ip : Word
  mac : LinkAddr
deriving DecidableEq, Repr

/-- A slot of the MAC table `MT` (10_state.md R24). -/
structure MtSlot where
  v : Bool
  mac : LinkAddr
  iface : IfaceId
  lastSeen : Stamp
deriving DecidableEq, Repr

/-- A route slot with every field 0. -/
def RtSlot.empty : RtSlot := { v := false, pfx := 0, mask := 0, nextHop := 0, iface := 0 }

/-- A neighbour slot with every field 0. -/
def NbSlot.empty : NbSlot := { v := false, ip := 0, mac := 0 }

/-- An interface slot with every field 0. -/
def IfSlot.empty : IfSlot := { en := false, ip := 0, mac := 0 }

/-- A MAC table slot with every field 0. -/
def MtSlot.empty : MtSlot := { v := false, mac := 0, iface := 0, lastSeen := 0 }

/-- The content of a pending-frame latch: the frame and its ingress interface (10_state.md R26). -/
structure Pending where
  bytes : Frame
  iface : IfaceId
deriving DecidableEq, Repr

/-- The sixteen event counters (10_state.md R19). -/
structure Counters where
  routed : Word
  switched : Word
  flooded : Word
  learnOvf : Word
  evict : Word
  sweep : Word
  /-- `CNT_DROP[1]` to `CNT_DROP[10]`, at positions 0 to 9. -/
  drop : Vector Word 10
deriving DecidableEq, Repr

/-- Every counter at 0 (10_state.md R27). -/
def Counters.zero : Counters :=
  { routed := 0, switched := 0, flooded := 0, learnOvf := 0, evict := 0, sweep := 0,
    drop := Vector.replicate 10 0 }

/-! ### The state -/

/-- The engine: its configuration, the state of 10_state.md, its output logs and its inputs. -/
structure State where
  /-- The parameters (00_scope.md R3): configuration, written by no step (log entry 1). -/
  params : Params
  /-- `CTRL` (10_state.md R13). -/
  ctrl : Word
  /-- `STATUS` (10_state.md R14). -/
  status : Word
  /-- `AGE_LIMIT` (10_state.md R15). -/
  ageLimit : Word
  /-- `SWEEP_PERIOD` (10_state.md R16). -/
  sweepPeriod : Word
  /-- `TIME` (10_state.md R17). -/
  time : Stamp
  /-- `SWEEP_LAST` (10_state.md R18). -/
  sweepLast : Stamp
  /-- The counters (10_state.md R19). -/
  counters : Counters
  /-- `RT`, `RT_DEPTH` slots (10_state.md R21; log entry 13). -/
  rt : List RtSlot
  /-- `NB`, `NB_DEPTH` slots (10_state.md R22; log entry 13). -/
  nb : List NbSlot
  /-- `IF`, sixteen slots (10_state.md R23). -/
  ifs : PerIface IfSlot
  /-- `MT`, `MT_DEPTH` slots (10_state.md R24; log entry 13). -/
  mt : List MtSlot
  /-- `PEND[A]` (10_state.md R26). -/
  pend : PerIssuer (Option Pending)
  /-- OUTPUT: the response log of each agent, oldest record first (00_scope.md R5; log entry 7). -/
  responses : PerIssuer (List (List Word))
  /-- OUTPUT: the transmit log `TX[e]` of each interface, oldest frame first (00_scope.md R5; log entry 7). -/
  txLog : PerIface (List Frame)
  /-- INPUT, the model's own field: the descriptors each agent has still to issue, in program order
  (00_scope.md R2; log entry 2). -/
  queue : PerIssuer (List Descriptor)
  /-- INPUT, the model's own field: whose turn comes next (20_memory.md R50; log entry 2). -/
  schedule : List Turn
  /-- The model's own field: the agent whose descriptor is being handled (00_scope.md R5; log entry 6). -/
  agent : Issuer
deriving DecidableEq, Repr

/-- The state right after a hardware reset of an engine with parameters `p` (10_state.md R27,
70_reset_and_hazards.md R221), with empty logs and no input. -/
def State.resetWith (p : Params) : State :=
  { params := p,
    ctrl := 0x00000004,
    status := 0,
    ageLimit := 15000,
    sweepPeriod := 1000,
    time := 0,
    sweepLast := 0,
    counters := Counters.zero,
    rt := List.replicate p.rtDepth RtSlot.empty,
    nb := List.replicate p.nbDepth NbSlot.empty,
    ifs := Vector.replicate 16 IfSlot.empty,
    mt := List.replicate p.mtDepth MtSlot.empty,
    pend := { host := none, rx := Vector.replicate 16 none },
    responses := { host := [], rx := Vector.replicate 16 [] },
    txLog := Vector.replicate 16 [],
    queue := { host := [], rx := Vector.replicate 16 [] },
    schedule := [],
    agent := .host }

/-- The machine right after reset, at the parameter setting of the spec's test vectors (log entry 1). -/
def State.reset : State := State.resetWith Params.test

/-- Why a step stops. No instruction of the engine stops it (20_memory.md R53). -/
inductive Fault where
  /-- Raised by `agentTurn` when an `RX[i]` agent is about to issue a descriptor that 00_scope.md R4 says
  it never issues: not a `FRAME`, not of interface `i`, of inconsistent length, or with `i >= N_IF`.
  Safe: no run of the hardware reaches it (log entry 5). -/
  | rxDiscipline
deriving DecidableEq, Repr

/-- Why an instruction has no meaning. -/
inductive Refusal where
  /-- Raised by `exec` for an instruction not modelled yet. Safe. No arm raises it: all are modelled. -/
  | notModelled (mnemonic : String)
deriving DecidableEq, Repr

/-- What a meaning answers. -/
abbrev Result := Host.Outcome State Fault Refusal

end Sys2Proof.Machine
end

