-- ==== Sys2Proof/Machine/Flags.lean ====
section
/-! DEFINITION. The bits of `CTRL` and `STATUS`, the codes and the words of a response
(10_state.md R13, R14; 30_encoding.md R69 to R72; 60_exceptions.md R200, R205). -/

namespace Sys2Proof.Machine

/-! ### CTRL (10_state.md R13) -/

/-- `CTRL` bit 0, `RUN`. -/
def ctrlRun (w : Word) : Bool := w.getLsbD 0

/-- `CTRL` bit 1, `MODE`: true is router. -/
def ctrlMode (w : Word) : Bool := w.getLsbD 1

/-- `CTRL` bit 2, `AGE_EN`. -/
def ctrlAgeEn (w : Word) : Bool := w.getLsbD 2

/-- `CTRL` bit 3, `NH_GW`. -/
def ctrlNhGw (w : Word) : Bool := w.getLsbD 3

/-- `CTRL` bits 31:4 are reserved. -/
def ctrlReserved (w : Word) : BitVec 28 := w.extractLsb' 4 28

/-! ### STATUS (10_state.md R14) -/

/-- `STATUS` bit 0, `MT_OVF`, as a mask. -/
def statusMtOvf : Word := 0x00000001

/-- `STATUS` bit 1, `CMD_ERR`, as a mask. -/
def statusCmdErr : Word := 0x00000002

/-- `STATUS` bits 31:2 are reserved. -/
def statusReserved (w : Word) : BitVec 30 := w.extractLsb' 2 30

/-! ### Codes -/

/-- The status code (60_exceptions.md R205). -/
def CmdStatus.code : CmdStatus → Byte
  | .ok => 0x00
  | .opcode => 0x01
  | .length => 0x02
  | .field => 0x03
  | .register => 0x04
  | .index => 0x05
  | .busy => 0x06

/-- The status a decoding error ends with (30_encoding.md R66, checks 1 and 2). -/
def decodeStatus : DecodeError → CmdStatus
  | .opcode => .opcode
  | .length => .length

/-- The position of a cause among the counters `CNT_DROP[1]` to `CNT_DROP[10]`. -/
def DropCause.index : DropCause → Fin 10
  | .type => 0
  | .csum => 1
  | .ttl => 2
  | .self => 3
  | .noRoute => 4
  | .noNeigh => 5
  | .runt => 6
  | .malformed => 7
  | .notRun => 8
  | .badPort => 9

/-- The verdict code of a drop (60_exceptions.md R200). -/
def DropCause.code : DropCause → Byte
  | .type => 0x01
  | .csum => 0x02
  | .ttl => 0x03
  | .self => 0x04
  | .noRoute => 0x05
  | .noNeigh => 0x06
  | .runt => 0x07
  | .malformed => 0x08
  | .notRun => 0x09
  | .badPort => 0x0A

/-- Verdict `ROUTED` (60_exceptions.md R200). -/
def verdictRouted : Byte := 0x80

/-- Verdict `SWITCHED` (60_exceptions.md R200). -/
def verdictSwitched : Byte := 0x81

/-- Verdict `FLOODED` (60_exceptions.md R200). -/
def verdictFlooded : Byte := 0x82

/-! ### Response words -/

/-- The status word (30_encoding.md R69): `op`, sixteen zero bits, the status code. -/
def statusWord (op : Byte) (st : CmdStatus) : Word := op ++ (0 : Half) ++ st.code

/-- The verdict word (30_encoding.md R70): the code, eight zero bits, the egress mask. -/
def verdictWord (code : Byte) (mask : Half) : Word := code ++ (0 : Byte) ++ mask

/-- The egress mask of one interface. -/
def ifaceBit (e : IfaceId) : Half := 1 <<< e.toNat

/-- The egress mask of a list of interfaces. -/
def ifaceMask (es : List IfaceId) : Half := es.foldl (fun m e => m ||| ifaceBit e) 0

/-- The flags word of a slot with an interface (30_encoding.md R71, `RT` and `MT`). -/
def slotFlags (v : Bool) (iface : IfaceId) : Word := (0 : BitVec 24) ++ iface ++ (0 : BitVec 3) ++ BitVec.ofBool v

/-- The flags word of a slot with a single flag (30_encoding.md R71, `NB` and `IF`). -/
def bitFlags (v : Bool) : Word := (BitVec.ofBool v).setWidth 32

/-- The result word of a lookup that hit (30_encoding.md R72): `HIT` 31, `IDX` 23:16, `IFACE` 7:4. -/
def hitWord (idx : Nat) (iface : IfaceId) : Word :=
  (1 : BitVec 1) ++ (0 : BitVec 7) ++ BitVec.ofNat 8 idx ++ (0 : Byte) ++ iface ++ (0 : BitVec 4)

end Sys2Proof.Machine
end

