-- ==== Sys2Proof/Machine/Operands.lean ====
section
/-! DEFINITION. How a value is assembled from descriptor or frame bits (30_encoding.md R73 to R75,
20_memory.md R42 to R46), and the register numbers (10_state.md R20). -/

namespace Sys2Proof.Machine

/-! ### Descriptor operands -/

/-- `a[3:0]`, an interface id. -/
def ifaceOfA (a : Byte) : IfaceId := a.extractLsb' 0 4

/-- `a[7:4]`, reserved where `a` holds an interface id. -/
def reservedA (a : Byte) : BitVec 4 := a.extractLsb' 4 4

/-- `b[0]`: `V` or `EN` (30_encoding.md R71). -/
def flagOfB (b : Half) : Bool := b.getLsbD 0

/-- `b[15:1]`, reserved in `IF_WR` and `NB_WR`. -/
def reservedB (b : Half) : BitVec 15 := b.extractLsb' 1 15

/-- `b[7:4]`, `IFACE` of `RT_WR`. -/
def ifaceOfB (b : Half) : IfaceId := b.extractLsb' 4 4

/-- `b[3:1]`, reserved in `RT_WR`. -/
def reservedBLow (b : Half) : BitVec 3 := b.extractLsb' 1 3

/-- `b[15:8]`, reserved in `RT_WR`. -/
def reservedBHigh (b : Half) : Byte := b.extractLsb' 8 8

/-- `MAC_HI[31:16]`, reserved (20_memory.md R46). -/
def macHiReserved (w : Word) : Half := w.extractLsb' 16 16

/-- A link address from `MAC_HI` and `MAC_LO` (20_memory.md R46). -/
def macOfWords (hi lo : Word) : LinkAddr := hi.extractLsb' 0 16 ++ lo

/-- `MAC_HI` of a link address (20_memory.md R46). -/
def macHi (m : LinkAddr) : Word := (0 : Half) ++ m.extractLsb' 32 16

/-- `MAC_LO` of a link address (20_memory.md R46). -/
def macLo (m : LinkAddr) : Word := m.extractLsb' 0 32

/-- The high word of a 64-bit value (20_memory.md R45). -/
def stampHi (t : Stamp) : Word := t.extractLsb' 32 32

/-- The low word of a 64-bit value (20_memory.md R45). -/
def stampLo (t : Stamp) : Word := t.extractLsb' 0 32

/-! ### Register numbers (10_state.md R20) -/

/-- The register of a number; every other number names no register. -/
def Csr.ofNumber (a : Byte) : Option Csr :=
  match a.toNat with
  | 0x00 => some .id
  | 0x01 => some .capIf
  | 0x02 => some .capRt
  | 0x03 => some .capNb
  | 0x04 => some .capMt
  | 0x05 => some .capFrame
  | 0x08 => some .ctrl
  | 0x09 => some .status
  | 0x0A => some .ageLimit
  | 0x0B => some .sweepPeriod
  | 0x40 => some .cntRouted
  | 0x41 => some .cntSwitched
  | 0x42 => some .cntFlooded
  | 0x43 => some .cntLearnOvf
  | 0x44 => some .cntEvict
  | 0x45 => some .cntSweep
  | 0x51 => some (.cntDrop .type)
  | 0x52 => some (.cntDrop .csum)
  | 0x53 => some (.cntDrop .ttl)
  | 0x54 => some (.cntDrop .self)
  | 0x55 => some (.cntDrop .noRoute)
  | 0x56 => some (.cntDrop .noNeigh)
  | 0x57 => some (.cntDrop .runt)
  | 0x58 => some (.cntDrop .malformed)
  | 0x59 => some (.cntDrop .notRun)
  | 0x5A => some (.cntDrop .badPort)
  | _ => none

/-! ### Frame bytes (00_scope.md section 5: `MemRead`, `MemWrite`) -/

/-- `F[k]`. Past the end it is 0, which no rule reads (log entry 14). -/
def byteAt (F : Frame) (k : Nat) : Byte := F.getD k 0

/-- `MemRead(F, k, 2)`. -/
def read16 (F : Frame) (k : Nat) : Half := byteAt F k ++ byteAt F (k + 1)

/-- `MemRead(F, k, 4)`. -/
def read32 (F : Frame) (k : Nat) : Word := byteAt F k ++ byteAt F (k + 1) ++ byteAt F (k + 2) ++ byteAt F (k + 3)

/-- `MemRead(F, k, 6)`. -/
def read48 (F : Frame) (k : Nat) : LinkAddr :=
  byteAt F k ++ byteAt F (k + 1) ++ byteAt F (k + 2) ++ byteAt F (k + 3) ++ byteAt F (k + 4) ++ byteAt F (k + 5)

/-- The big-endian bytes of a 16-bit value. -/
def bytesOf16 (v : Half) : List Byte := [v.extractLsb' 8 8, v.extractLsb' 0 8]

/-- The big-endian bytes of a link address. -/
def bytesOf48 (v : LinkAddr) : List Byte :=
  [v.extractLsb' 40 8, v.extractLsb' 32 8, v.extractLsb' 24 8, v.extractLsb' 16 8, v.extractLsb' 8 8, v.extractLsb' 0 8]

/-- `MemWrite(F, k, n, v)` with `bs` the `n` big-endian bytes of `v`; used with `k + n <= len(F)` only. -/
def writeBytes (F : Frame) (k : Nat) (bs : List Byte) : Frame := F.take k ++ bs ++ F.drop (k + bs.length)

/-! ### Frame fields (30_encoding.md R73, R74) -/

/-- `DMAC(F)`. -/
def dmac (F : Frame) : LinkAddr := read48 F 0

/-- `SMAC(F)`. -/
def smac (F : Frame) : LinkAddr := read48 F 6

/-- `ETYPE(F)`. -/
def etype (F : Frame) : Half := read16 F 12

/-- `IHL(F) = F[14][3:0]`. -/
def ihl (F : Frame) : BitVec 4 := (byteAt F 14).extractLsb' 0 4

/-- `HLEN(F) = 4 * IHL(F)` bytes. -/
def hlen (F : Frame) : Nat := 4 * (ihl F).toNat

/-- `TTL(F) = F[22]`. -/
def ttl (F : Frame) : Byte := byteAt F 22

/-- `DST(F)`. -/
def dst (F : Frame) : Word := read32 F 30

/-- The header `F[14 .. 14 + HLEN(F) - 1]`. -/
def ipHeader (F : Frame) : List Byte := (F.drop 14).take (hlen F)

end Sys2Proof.Machine
end

