-- ==== Sys2Proof/Machine/Ops.lean ====
section
/-! DEFINITION. The named operations over the state: reading and writing registers and tables, the
response and transmit logs, the two exceptional outcomes (60_exceptions.md R203, R206) and reset. -/

namespace Sys2Proof.Machine

/-! ### Containers -/

/-- The value of one interface. -/
def PerIface.get {α : Type} (v : PerIface α) (e : IfaceId) : α := Vector.get v e.toFin

/-- Replaces the value of one interface. -/
def PerIface.set {α : Type} (v : PerIface α) (e : IfaceId) (x : α) : PerIface α := Vector.set v e.toNat x e.isLt

/-- The value of one agent. -/
def PerIssuer.get {α : Type} (v : PerIssuer α) (A : Issuer) : α :=
  match A with
  | .host => v.host
  | .rx i => PerIface.get v.rx i

/-- Replaces the value of one agent. -/
def PerIssuer.set {α : Type} (v : PerIssuer α) (A : Issuer) (x : α) : PerIssuer α :=
  match A with
  | .host => { v with host := x }
  | .rx i => { v with rx := PerIface.set v.rx i x }

/-! ### Tables -/

/-- `RT[j]`; past the last slot, an empty slot (log entry 13). -/
def State.rtAt (s : State) (j : Nat) : RtSlot := s.rt.getD j RtSlot.empty

/-- `NB[j]`; past the last slot, an empty slot (log entry 13). -/
def State.nbAt (s : State) (j : Nat) : NbSlot := s.nb.getD j NbSlot.empty

/-- `IF[e]`. -/
def State.ifAt (s : State) (e : IfaceId) : IfSlot := PerIface.get s.ifs e

/-- `MT[j]`; past the last slot, an empty slot (log entry 13). -/
def State.mtAt (s : State) (j : Nat) : MtSlot := s.mt.getD j MtSlot.empty

/-- `RT[j] <- x`, the whole slot (20_memory.md R48). -/
def writeRt (j : Nat) (x : RtSlot) (s : State) : State := { s with rt := s.rt.set j x }

/-- `NB[j] <- x`, the whole slot. -/
def writeNb (j : Nat) (x : NbSlot) (s : State) : State := { s with nb := s.nb.set j x }

/-- `IF[e] <- x`, the whole slot. -/
def writeIf (e : IfaceId) (x : IfSlot) (s : State) : State := { s with ifs := PerIface.set s.ifs e x }

/-- `MT[j] <- x`, the whole slot. -/
def writeMt (j : Nat) (x : MtSlot) (s : State) : State := { s with mt := s.mt.set j x }

/-- Every field of every slot of `RT` becomes 0 (41_route_table_lpm.md R116). -/
def clearRt (s : State) : State := { s with rt := List.replicate s.params.rtDepth RtSlot.empty }

/-- Every field of every slot of `NB` becomes 0 (42_neighbor_cache.md R128). -/
def clearNb (s : State) : State := { s with nb := List.replicate s.params.nbDepth NbSlot.empty }

/-- Every field of every slot of `MT` becomes 0 (40_control_ops.md R93). -/
def clearMt (s : State) : State := { s with mt := List.replicate s.params.mtDepth MtSlot.empty }

/-! ### Mode bits -/

/-- `CTRL.RUN`. -/
def State.running (s : State) : Bool := ctrlRun s.ctrl

/-- `CTRL.MODE`: true is router. -/
def State.routerMode (s : State) : Bool := ctrlMode s.ctrl

/-- `CTRL.AGE_EN`. -/
def State.ageEnabled (s : State) : Bool := ctrlAgeEn s.ctrl

/-- `CTRL.NH_GW`. -/
def State.gatewayKey (s : State) : Bool := ctrlNhGw s.ctrl

/-! ### Control registers -/

/-- `CNT_DROP[c]`. -/
def Counters.dropCount (k : Counters) (c : DropCause) : Word := k.drop.get c.index

/-- The value of a register (10_state.md R12 to R16, R19). -/
def State.readCsr (s : State) (r : Csr) : Word :=
  match r with
  | .id => idValue
  | .capIf => BitVec.ofNat 32 s.params.nIf
  | .capRt => BitVec.ofNat 32 s.params.rtDepth
  | .capNb => BitVec.ofNat 32 s.params.nbDepth
  | .capMt => BitVec.ofNat 32 s.params.mtDepth
  | .capFrame => BitVec.ofNat 32 s.params.maxFrame
  | .ctrl => s.ctrl
  | .status => s.status
  | .ageLimit => s.ageLimit
  | .sweepPeriod => s.sweepPeriod
  | .cntRouted => s.counters.routed
  | .cntSwitched => s.counters.switched
  | .cntFlooded => s.counters.flooded
  | .cntLearnOvf => s.counters.learnOvf
  | .cntEvict => s.counters.evict
  | .cntSweep => s.counters.sweep
  | .cntDrop c => s.counters.dropCount c

/-! ### Counter increments, modulo 2^32 (10_state.md R19) -/

/-- `CNT_ROUTED` plus 1. -/
def countRouted (s : State) : State := { s with counters := { s.counters with routed := s.counters.routed + 1 } }

/-- `CNT_SWITCHED` plus 1. -/
def countSwitched (s : State) : State := { s with counters := { s.counters with switched := s.counters.switched + 1 } }

/-- `CNT_FLOODED` plus 1. -/
def countFlooded (s : State) : State := { s with counters := { s.counters with flooded := s.counters.flooded + 1 } }

/-- `CNT_LEARN_OVF` plus 1. -/
def countLearnOvf (s : State) : State := { s with counters := { s.counters with learnOvf := s.counters.learnOvf + 1 } }

/-- `CNT_EVICT` plus `n`. -/
def countEvicted (n : Nat) (s : State) : State :=
  { s with counters := { s.counters with evict := s.counters.evict + BitVec.ofNat 32 n } }

/-- `CNT_SWEEP` plus 1. -/
def countSweep (s : State) : State := { s with counters := { s.counters with sweep := s.counters.sweep + 1 } }

/-- `CNT_DROP[c]` plus 1. -/
def countDrop (c : DropCause) (s : State) : State :=
  let bumped := s.counters.drop.set c.index.val (s.counters.dropCount c + 1) c.index.isLt
  { s with counters := { s.counters with drop := bumped } }

/-- `STATUS <- STATUS | m`. -/
def setStatus (m : Word) (s : State) : State := { s with status := s.status ||| m }

/-- `STATUS <- STATUS & ~_32 w` (40_control_ops.md R94). -/
def clearStatus (w : Word) (s : State) : State := { s with status := s.status &&& ~~~ w }

/-! ### Writable registers and time -/

/-- `CTRL <- w`. -/
def setCtrl (w : Word) (s : State) : State := { s with ctrl := w }

/-- `AGE_LIMIT <- w`. -/
def setAgeLimit (w : Word) (s : State) : State := { s with ageLimit := w }

/-- `SWEEP_PERIOD <- w`. -/
def setSweepPeriod (w : Word) (s : State) : State := { s with sweepPeriod := w }

/-- `TIME <- TIME +_64 1` (45_learning_switch.md R190). -/
def advanceTime (s : State) : State := { s with time := s.time + 1 }

/-- `SWEEP_LAST <- TIME` (45_learning_switch.md R190, 40_control_ops.md R93). -/
def markSweep (s : State) : State := { s with sweepLast := s.time }

/-- The start of a running period (40_control_ops.md R93): the MAC table is flushed and `SWEEP_LAST`
takes `TIME`. -/
def startRunning (s : State) : State := markSweep (clearMt s)

/-! ### Outputs (00_scope.md R5) -/

/-- Appends a record to the response log of the agent whose descriptor is handled. -/
def appendResponse (record : List Word) (s : State) : State :=
  { s with responses := s.responses.set s.agent (s.responses.get s.agent ++ [record]) }

/-- `respond(OK, w1, ..., wk)`. -/
def respondOk (op : Opcode) (ws : List Word) (s : State) : State := appendResponse (statusWord op.byte .ok :: ws) s

/-- `emit TX(e, F)`. -/
def emitTx (e : IfaceId) (F : Frame) (s : State) : State :=
  { s with txLog := PerIface.set s.txLog e (PerIface.get s.txLog e ++ [F]) }

/-- The pending-frame latch of an agent becomes `p` (10_state.md R26). -/
def setPend (A : Issuer) (p : Option Pending) (s : State) : State := { s with pend := s.pend.set A p }

/-! ### The two exceptional outcomes -/

/-- `raise CmdErr(st)` of a descriptor with header byte `op` (60_exceptions.md R206): `STATUS.CMD_ERR`
becomes 1 and the record is the status word alone. Nothing returns from it (R204). -/
def raiseCmdErr (op : Byte) (st : CmdStatus) (s : State) : State :=
  appendResponse [statusWord op st] (setStatus statusCmdErr s)

/-- `raise Drop(c)` of a `FRAME` (60_exceptions.md R203): one counter and the verdict with mask 0.
Nothing returns from it (R204). -/
def raiseDrop (c : DropCause) (s : State) : State :=
  respondOk .frame [verdictWord c.code 0] (countDrop c s)

/-- A meaning that ends with a command error. -/
def cmdErr (op : Opcode) (st : CmdStatus) (s : State) : Result := .next (raiseCmdErr op.byte st s)

/-- A meaning that ends with status `OK` and data words. -/
def done (op : Opcode) (ws : List Word) (s : State) : Result := .next (respondOk op ws s)

/-! ### Reset (70_reset_and_hazards.md R220) -/

/-- `SOFT_RESET`: every element of state at its reset value, except the pending-frame latches
(40_control_ops.md R97). The logs are not erased; inputs and configuration are no state of the engine. -/
def softReset (s : State) : State :=
  { State.resetWith s.params with
    pend := s.pend, responses := s.responses, txLog := s.txLog,
    queue := s.queue, schedule := s.schedule, agent := s.agent }

/-- Hardware reset: `SOFT_RESET` and the pending-frame latches emptied as well. -/
def hardReset (s : State) : State := { softReset s with pend := (State.resetWith s.params).pend }

end Sys2Proof.Machine
end

