-- ==== Sys2Proof/Machine/Control.lean ====
section
/-! DEFINITION. The control operations (40_control_ops.md): `NOP`, `CTRL_RD`, `CTRL_WR`, `TIME_RD`,
`SOFT_RESET`, `IF_WR`, `IF_RD`. -/

namespace Sys2Proof.Machine

/-- `NOP` (R90). -/
def execNop (a : Byte) (b : Half) (s : State) : Result :=
  if a ≠ 0 ∨ b ≠ 0 then cmdErr .nop .field s else done .nop [] s

/-- `CTRL_RD` (R91). -/
def execCtrlRd (a : Byte) (b : Half) (s : State) : Result :=
  if b ≠ 0 then cmdErr .ctrlRd .field s
  else match Csr.ofNumber a with
    | none => cmdErr .ctrlRd .register s
    | some r => done .ctrlRd [s.readCsr r] s

/-- `CTRL_WR` to `CTRL` (R93). -/
def writeCtrl (new : Word) (s : State) : Result :=
  if ctrlReserved new ≠ 0 then cmdErr .ctrlWr .field s
  else if s.running ∧ (ctrlMode new ≠ s.routerMode ∨ ctrlNhGw new ≠ s.gatewayKey) then cmdErr .ctrlWr .busy s
  else if ¬ s.running ∧ ctrlRun new then done .ctrlWr [] (startRunning (setCtrl new s))
  else done .ctrlWr [] (setCtrl new s)

/-- `CTRL_WR` to `STATUS` (R94): write one to clear. -/
def writeStatus (w : Word) (s : State) : Result :=
  if statusReserved w ≠ 0 then cmdErr .ctrlWr .field s
  else done .ctrlWr [] (clearStatus w s)

/-- `CTRL_WR` (R92, R95): a number that names no register and a read-only register are `ERR_REG`. -/
def execCtrlWr (a : Byte) (b : Half) (value : Word) (s : State) : Result :=
  if b ≠ 0 then cmdErr .ctrlWr .field s
  else match Csr.ofNumber a with
    | some .ctrl => writeCtrl value s
    | some .status => writeStatus value s
    | some .ageLimit => done .ctrlWr [] (setAgeLimit value s)
    | some .sweepPeriod => done .ctrlWr [] (setSweepPeriod value s)
    | _ => cmdErr .ctrlWr .register s

/-- `TIME_RD` (R96). -/
def execTimeRd (a : Byte) (b : Half) (s : State) : Result :=
  if a ≠ 0 ∨ b ≠ 0 then cmdErr .timeRd .field s
  else done .timeRd [stampHi s.time, stampLo s.time, stampHi s.sweepLast, stampLo s.sweepLast] s

/-- `SOFT_RESET` (R97). -/
def execSoftReset (a : Byte) (b : Half) (s : State) : Result :=
  if a ≠ 0 ∨ b ≠ softResetKey then cmdErr .softReset .field s
  else done .softReset [] (softReset s)

/-- `IF_WR` (R98). -/
def execIfWr (a : Byte) (b : Half) (ip hi lo : Word) (s : State) : Result :=
  if reservedA a ≠ 0 ∨ reservedB b ≠ 0 then cmdErr .ifWr .field s
  else if s.params.nIf ≤ (ifaceOfA a).toNat then cmdErr .ifWr .index s
  else if macHiReserved hi ≠ 0 then cmdErr .ifWr .field s
  else if s.running then cmdErr .ifWr .busy s
  else done .ifWr [] (writeIf (ifaceOfA a) { en := flagOfB b, ip := ip, mac := macOfWords hi lo } s)

/-- `IF_RD` (R99). -/
def execIfRd (a : Byte) (b : Half) (s : State) : Result :=
  if reservedA a ≠ 0 ∨ b ≠ 0 then cmdErr .ifRd .field s
  else if s.params.nIf ≤ (ifaceOfA a).toNat then cmdErr .ifRd .index s
  else
    let x := s.ifAt (ifaceOfA a)
    done .ifRd [bitFlags x.en, x.ip, macHi x.mac, macLo x.mac] s

end Sys2Proof.Machine
end

