-- ==== Sys2Proof/Machine/Checksum.lean ====
section
/-! DEFINITION. The IPv4 header checksum validator (43_checksum.md): `cksum`, `hdr_cksum`, `hdr_valid`,
`restamp`, `CSUM`, `HDR_VFY`. -/

namespace Sys2Proof.Machine

/-- The sum of the big-endian 16-bit words, a trailing odd byte padded with 0 (R135). -/
def wordSum : List Byte → Nat
  | [] => 0
  | [x] => 256 * x.toNat
  | x :: y :: rest => (256 * x.toNat + y.toNat) + wordSum rest

/-- The end-around carry loop of R135, run at most `fuel` times. -/
def foldCarry : Nat → Nat → Nat
  | 0, S => S
  | fuel + 1, S => if S < 65536 then S else foldCarry fuel (S % 65536 + S / 65536)

/-- The folded sum: `S` turns of the loop always suffice, since each one lessens `S`. -/
def foldSum (S : Nat) : Nat := foldCarry S S

/-- `cksum(B)` (R135). -/
def cksum (B : List Byte) : Half := BitVec.ofNat 16 (65535 - foldSum (wordSum B))

/-- `H` with the checksum bytes 10 and 11 replaced by 0 (R137). -/
def zeroChecksum (H : List Byte) : List Byte := writeBytes H 10 [0, 0]

/-- `hdr_cksum(H)` (R137). -/
def hdrCksum (H : List Byte) : Half := cksum (zeroChecksum H)

/-- `hdr_valid(H)` (R138): the stored checksum equals the computed one. -/
def hdrValid (H : List Byte) : Bool := read16 H 10 == hdrCksum H

/-- `restamp(H)` (R139). -/
def restamp (H : List Byte) : List Byte := writeBytes H 10 (bytesOf16 (hdrCksum H))

/-- `CSUM` (R140). -/
def execCsum (a : Byte) (bytes : List Byte) (s : State) : Result :=
  if s.params.maxFrame < bytes.length then cmdErr .csum .length s
  else if a ≠ 0 then cmdErr .csum .field s
  else done .csum [(0 : Half) ++ cksum bytes] s

/-- `HDR_VFY` (R141). -/
def execHdrVfy (a : Byte) (bytes : List Byte) (s : State) : Result :=
  if s.params.maxFrame < bytes.length ∨ bytes.length < 12 then cmdErr .hdrVfy .length s
  else if a ≠ 0 then cmdErr .hdrVfy .field s
  else done .hdrVfy
    [BitVec.ofBool (hdrValid bytes) ++ (0 : BitVec 15) ++ hdrCksum bytes, (0 : Half) ++ read16 bytes 10] s

end Sys2Proof.Machine
end

