-- ==== Sys2Proof/Machine/MacTable.lean ====
section
/-! DEFINITION. The MAC table and its ageing (45_learning_switch.md sections 2 to 4): `mt_find`,
`mt_learn`, `TICK`, `sweep`, `MT_RD`, `MT_LKUP`. -/

namespace Sys2Proof.Machine

/-! ### Table functions -/

/-- `mt_find(m)` (R178): the valid slot that holds `m`, the lowest one for totality. -/
def State.mtFind (s : State) (m : LinkAddr) : Option Nat :=
  (List.range s.params.mtDepth).find? (fun j => (s.mtAt j).v && (s.mtAt j).mac == m)

/-- The lowest free slot (R179). -/
def State.mtFree (s : State) : Option Nat :=
  (List.range s.params.mtDepth).find? (fun j => !(s.mtAt j).v)

/-- `mt_learn(m, i, now)` with `now = TIME` (R179), and the overflow (R180). -/
def mtLearn (m : LinkAddr) (i : IfaceId) (s : State) : State :=
  match s.mtFind m with
  | some j => writeMt j { s.mtAt j with iface := i, lastSeen := s.time } s
  | none =>
    match s.mtFree with
    | some j => writeMt j { v := true, mac := m, iface := i, lastSeen := s.time } s
    | none => countLearnOvf (setStatus statusMtOvf s)

/-! ### Time and ageing -/

/-- A slot is stale at `now` when it is valid and its age exceeds the limit (R191). -/
def staleAt (now : Stamp) (limit : Word) (x : MtSlot) : Bool :=
  x.v && decide ((limit.setWidth 64) < now - x.lastSeen)

/-- `sweep(now)` with `now = TIME` (R191): every field of every stale slot becomes 0, and the evictions
are counted. -/
def sweep (s : State) : State :=
  countEvicted (s.mt.countP (staleAt s.time s.ageLimit))
    { s with mt := s.mt.map (fun x => if staleAt s.time s.ageLimit x then MtSlot.empty else x) }

/-- The condition of R190 for a sweep, in the state whose `TIME` is already `now`. -/
def State.sweepDue (s : State) : Bool :=
  s.running && s.ageEnabled && decide (s.sweepPeriod.setWidth 64 ≤ s.time - s.sweepLast)

/-- `TICK`, the step of the `TIMER` agent (R190). -/
def tick (s : State) : State :=
  if (advanceTime s).sweepDue then countSweep (markSweep (sweep (advanceTime s))) else advanceTime s

/-! ### Diagnostic reads -/

/-- `MT_RD` (R193). -/
def execMtRd (a : Byte) (b : Half) (s : State) : Result :=
  if b ≠ 0 then cmdErr .mtRd .field s
  else if s.params.mtDepth ≤ a.toNat then cmdErr .mtRd .index s
  else
    let x := s.mtAt a.toNat
    done .mtRd [slotFlags x.v x.iface, macHi x.mac, macLo x.mac, stampHi x.lastSeen, stampLo x.lastSeen] s

/-- `MT_LKUP` (R194). -/
def execMtLkup (a : Byte) (b : Half) (hi lo : Word) (s : State) : Result :=
  if a ≠ 0 ∨ b ≠ 0 then cmdErr .mtLkup .field s
  else if macHiReserved hi ≠ 0 then cmdErr .mtLkup .field s
  else match s.mtFind (macOfWords hi lo) with
    | none => done .mtLkup [0, 0, 0] s
    | some j =>
      let x := s.mtAt j
      done .mtLkup [hitWord j x.iface, stampHi x.lastSeen, stampLo x.lastSeen] s

end Sys2Proof.Machine
end

