-- ==== Sys2Proof/Machine/Neighbor.lean ====
section
/-! DEFINITION. The neighbour cache (42_neighbor_cache.md): `nb_lookup`, `nb_key`, `NB_WR`, `NB_RD`,
`NB_CLR`, `NB_LKUP`. -/

namespace Sys2Proof.Machine

/-- `nb_lookup(x)` (R125): the lowest valid slot whose `IP` is `x`. -/
def State.nbLookup (s : State) (x : Word) : Option Nat :=
  (List.range s.params.nbDepth).find? (fun i => (s.nbAt i).v && (s.nbAt i).ip == x)

/-- `nb_key(i, d)` (R130): the packet's destination, or the route's gateway when `NH_GW` selects it
and there is one. -/
def State.nbKey (s : State) (i : Nat) (d : Word) : Word :=
  if ¬ s.gatewayKey then d
  else if (s.rtAt i).nextHop ≠ 0 then (s.rtAt i).nextHop
  else d

/-- `NB_WR` (R126). -/
def execNbWr (a : Byte) (b : Half) (ip hi lo : Word) (s : State) : Result :=
  if reservedB b ≠ 0 then cmdErr .nbWr .field s
  else if s.params.nbDepth ≤ a.toNat then cmdErr .nbWr .index s
  else if macHiReserved hi ≠ 0 then cmdErr .nbWr .field s
  else if s.running then cmdErr .nbWr .busy s
  else done .nbWr [] (writeNb a.toNat { v := flagOfB b, ip := ip, mac := macOfWords hi lo } s)

/-- `NB_RD` (R127). -/
def execNbRd (a : Byte) (b : Half) (s : State) : Result :=
  if b ≠ 0 then cmdErr .nbRd .field s
  else if s.params.nbDepth ≤ a.toNat then cmdErr .nbRd .index s
  else
    let x := s.nbAt a.toNat
    done .nbRd [bitFlags x.v, x.ip, macHi x.mac, macLo x.mac] s

/-- `NB_CLR` (R128). -/
def execNbClr (a : Byte) (b : Half) (s : State) : Result :=
  if a ≠ 0 ∨ b ≠ 0 then cmdErr .nbClr .field s
  else if s.running then cmdErr .nbClr .busy s
  else done .nbClr [] (clearNb s)

/-- `NB_LKUP` (R129). -/
def execNbLkup (a : Byte) (b : Half) (ip : Word) (s : State) : Result :=
  if a ≠ 0 ∨ b ≠ 0 then cmdErr .nbLkup .field s
  else match s.nbLookup ip with
    | none => done .nbLkup [0, 0, 0] s
    | some i =>
      let x := s.nbAt i
      done .nbLkup [hitWord i 0, macHi x.mac, macLo x.mac] s

end Sys2Proof.Machine
end

