-- ==== Sys2Proof/Machine/Route.lean ====
section
/-! DEFINITION. The route table and longest-prefix-match lookup (41_route_table_lpm.md): `lpm`, `RT_WR`,
`RT_RD`, `RT_CLR`, `RT_LKUP`. -/

namespace Sys2Proof.Machine

/-! ### The lookup function -/

/-- `mask_of(L)`: the `L` most significant bits 1, the others 0 (R112). -/
def maskOf (L : Nat) : Word := ~~~ (BitVec.allOnes 32 >>> L)

/-- A mask is contiguous when it is `mask_of(L)` for some `0 <= L <= 32` (R112). -/
def contiguous (m : Word) : Bool := (List.range 33).any (fun L => m == maskOf L)

/-- `masklen(m)`: the number of 1 bits of `m` (R112). -/
def maskLen (m : Word) : Nat := (List.range 32).countP (fun k => m.getLsbD k)

/-- `match(i, d)` of a slot: both sides are masked (R111). -/
def rtMatches (x : RtSlot) (d : Word) : Bool := (d &&& x.mask) == (x.pfx &&& x.mask)

/-- The set `M` of R110, in ascending order of slots. -/
def State.lpmMatches (s : State) (d : Word) : List Nat :=
  (List.range s.params.rtDepth).filter (fun i => (s.rtAt i).v && rtMatches (s.rtAt i) d)

/-- The length `L` of R110: the greatest mask length of the slots in a list. -/
def State.longestMask (s : State) (M : List Nat) : Nat := (M.map (fun i => maskLen (s.rtAt i).mask)).foldl max 0

/-- `lpm(d)` (R110): the lowest slot (R113) among the matching ones of greatest mask length. -/
def State.lpm (s : State) (d : Word) : Option Nat :=
  (s.lpmMatches d).find? (fun i => maskLen (s.rtAt i).mask == s.longestMask (s.lpmMatches d))

/-! ### Descriptors -/

/-- `RT_WR` (R114). -/
def execRtWr (a : Byte) (b : Half) (pfx mask nextHop : Word) (s : State) : Result :=
  if reservedBLow b ≠ 0 ∨ reservedBHigh b ≠ 0 then cmdErr .rtWr .field s
  else if s.params.rtDepth ≤ a.toNat then cmdErr .rtWr .index s
  else if flagOfB b ∧ ¬ contiguous mask then cmdErr .rtWr .field s
  else if flagOfB b ∧ s.params.nIf ≤ (ifaceOfB b).toNat then cmdErr .rtWr .field s
  else if s.running then cmdErr .rtWr .busy s
  else done .rtWr [] (writeRt a.toNat
    { v := flagOfB b, pfx := pfx, mask := mask, nextHop := nextHop, iface := ifaceOfB b } s)

/-- `RT_RD` (R115). -/
def execRtRd (a : Byte) (b : Half) (s : State) : Result :=
  if b ≠ 0 then cmdErr .rtRd .field s
  else if s.params.rtDepth ≤ a.toNat then cmdErr .rtRd .index s
  else
    let x := s.rtAt a.toNat
    done .rtRd [slotFlags x.v x.iface, x.pfx, x.mask, x.nextHop] s

/-- `RT_CLR` (R116). -/
def execRtClr (a : Byte) (b : Half) (s : State) : Result :=
  if a ≠ 0 ∨ b ≠ 0 then cmdErr .rtClr .field s
  else if s.running then cmdErr .rtClr .busy s
  else done .rtClr [] (clearRt s)

/-- `RT_LKUP` (R117). -/
def execRtLkup (a : Byte) (b : Half) (d : Word) (s : State) : Result :=
  if a ≠ 0 ∨ b ≠ 0 then cmdErr .rtLkup .field s
  else match s.lpm d with
    | none => done .rtLkup [0, 0, 0, 0] s
    | some i =>
      let x := s.rtAt i
      done .rtLkup [hitWord i x.iface, x.nextHop, x.pfx, x.mask] s

end Sys2Proof.Machine
end

