-- ==== Sys2Proof/Machine/Forward.lean ====
section
/-! DEFINITION. `FRAME` (44_router_forwarder.md R150), the router pipeline with the frame header mutator
(R151 to R161), and the two steps of the learning switch (45_learning_switch.md R175 to R184). -/

namespace Sys2Proof.Machine

/-! ### Router mode -/

/-- Step 4 (R155): the destination is the address of a configured interface. -/
def State.selfDestined (s : State) (d : Word) : Bool :=
  (List.range s.params.nIf).any (fun j => (s.ifAt (BitVec.ofNat 4 j)).en && (s.ifAt (BitVec.ofNat 4 j)).ip == d)

/-- The presence check (R152). -/
def malformed (F : Frame) : Bool :=
  decide (F.length < 34) || decide ((ihl F).toNat < 5) || decide (F.length < 14 + hlen F)

/-- The first three writes of step 7 (R159): both link addresses and the new TTL. -/
def rewriteAddresses (F : Frame) (newTtl : Byte) (dstMac srcMac : LinkAddr) : Frame :=
  writeBytes (writeBytes (writeBytes F 0 (bytesOf48 dstMac)) 6 (bytesOf48 srcMac)) 22 [newTtl]

/-- Step 7, the frame header mutator (R159): the checksum is recomputed over the header with the new TTL. -/
def mutate (F : Frame) (newTtl : Byte) (dstMac srcMac : LinkAddr) : Frame :=
  let F' := rewriteAddresses F newTtl dstMac srcMac
  writeBytes F' 24 (bytesOf16 (hdrCksum (ipHeader F')))

/-- Steps 1 to 7 of the pipeline, in the order of R161: the cause of the drop, or the egress interface
and the frame to transmit. -/
def State.routeDecision (s : State) (F : Frame) : Except DropCause (IfaceId × Frame) :=
  if etype F ≠ etypeIPv4 then .error .type
  else if malformed F then .error .malformed
  else if ¬ hdrValid (ipHeader F) then .error .csum
  else if ttl F = 0 ∨ ttl F = 1 then .error .ttl
  else if s.selfDestined (dst F) then .error .self
  else match s.lpm (dst F) with
    | none => .error .noRoute
    | some ri =>
      match s.nbLookup (s.nbKey ri (dst F)) with
      | none => .error .noNeigh
      | some qi =>
        let e := (s.rtAt ri).iface
        .ok (e, mutate F (ttl F - 1) (s.nbAt qi).mac (s.ifAt e).mac)

/-- Step 8 (R158): transmit, count, verdict `ROUTED`. -/
def routed (e : IfaceId) (F : Frame) (s : State) : State :=
  respondOk .frame [verdictWord verdictRouted (ifaceBit e)] (countRouted (emitTx e F s))

/-- `route(F, i)` (R161); the ingress interface plays no part. -/
def route (F : Frame) (s : State) : State :=
  match s.routeDecision F with
  | .error c => raiseDrop c s
  | .ok (e, F') => routed e F' s

/-! ### Switch mode -/

/-- The learn step (R176): learn the source address, then fill the agent's latch. -/
def learnStep (F : Frame) (i : IfaceId) (s : State) : State :=
  setPend s.agent (some { bytes := F, iface := i }) (mtLearn (smac F) i s)

/-- `forward_hit(F, e)` (R181). -/
def forwardHit (F : Frame) (e : IfaceId) (s : State) : State :=
  respondOk .frame [verdictWord verdictSwitched (ifaceBit e)] (countSwitched (emitTx e F s))

/-- The interfaces a frame that arrived on `i` is flooded to, in ascending order (R182). -/
def State.floodSet (s : State) (i : IfaceId) : List IfaceId :=
  ((List.range 16).map (BitVec.ofNat 4)).filter
    (fun e => decide (e.toNat < s.params.nIf) && (s.ifAt e).en && e != i)

/-- `emit TX(e, F)` for every interface of a list, in its order. -/
def emitAll (es : List IfaceId) (F : Frame) (s : State) : State := es.foldl (fun t e => emitTx e F t) s

/-- `flood(F, i)` (R182). -/
def flood (F : Frame) (i : IfaceId) (s : State) : State :=
  respondOk .frame [verdictWord verdictFlooded (ifaceMask (s.floodSet i))]
    (countFlooded (emitAll (s.floodSet i) F s))

/-- The forward step of the agent `s.agent`, whose latch held `p` (R177). -/
def forwardStep (p : Pending) (s : State) : State :=
  let s' := setPend s.agent none s
  if ¬ s'.running ∨ s'.routerMode then raiseDrop .notRun s'
  else match s'.mtFind (dmac p.bytes) with
    | some j => forwardHit p.bytes (s'.mtAt j).iface s'
    | none => flood p.bytes p.iface s'

/-! ### The descriptor -/

/-- The drops before the dispatch, then the pipeline of the mode (R150). -/
def frameStep (F : Frame) (i : IfaceId) (s : State) : State :=
  if ¬ s.running then raiseDrop .notRun s
  else if ¬ (s.ifAt i).en then raiseDrop .badPort s
  else if F.length < 14 then raiseDrop .runt s
  else if s.routerMode then route F s
  else learnStep F i s

/-- `FRAME` (R150): in switch mode this is the learn step, and the response comes with the forward step. -/
def execFrame (a : Byte) (bytes : Frame) (s : State) : Result :=
  if s.params.maxFrame < bytes.length then cmdErr .frame .length s
  else if reservedA a ≠ 0 then cmdErr .frame .field s
  else if s.params.nIf ≤ (ifaceOfA a).toNat then cmdErr .frame .index s
  else .next (frameStep bytes (ifaceOfA a) s)

end Sys2Proof.Machine
end

