-- ==== Sys2Proof/Machine/Dispatch.lean ====
section
/-! DEFINITION. One arm per descriptor: the meaning of every instruction. -/

namespace Sys2Proof.Machine

def exec (i : Instr) (s : State) : Host.Outcome State Fault Refusal :=
  match i with
  | .nop a b => Sys2Proof.Machine.execNop a b s
  | .ctrlRd a b => Sys2Proof.Machine.execCtrlRd a b s
  | .ctrlWr a b value => Sys2Proof.Machine.execCtrlWr a b value s
  | .timeRd a b => Sys2Proof.Machine.execTimeRd a b s
  | .softReset a b => Sys2Proof.Machine.execSoftReset a b s
  | .ifWr a b ip hi lo => Sys2Proof.Machine.execIfWr a b ip hi lo s
  | .ifRd a b => Sys2Proof.Machine.execIfRd a b s
  | .rtWr a b pfx mask nextHop => Sys2Proof.Machine.execRtWr a b pfx mask nextHop s
  | .rtRd a b => Sys2Proof.Machine.execRtRd a b s
  | .rtClr a b => Sys2Proof.Machine.execRtClr a b s
  | .rtLkup a b d => Sys2Proof.Machine.execRtLkup a b d s
  | .nbWr a b ip hi lo => Sys2Proof.Machine.execNbWr a b ip hi lo s
  | .nbRd a b => Sys2Proof.Machine.execNbRd a b s
  | .nbClr a b => Sys2Proof.Machine.execNbClr a b s
  | .nbLkup a b ip => Sys2Proof.Machine.execNbLkup a b ip s
  | .mtRd a b => Sys2Proof.Machine.execMtRd a b s
  | .mtLkup a b hi lo => Sys2Proof.Machine.execMtLkup a b hi lo s
  | .csum a bytes => Sys2Proof.Machine.execCsum a bytes s
  | .hdrVfy a bytes => Sys2Proof.Machine.execHdrVfy a bytes s
  | .frame a bytes => Sys2Proof.Machine.execFrame a bytes s

end Sys2Proof.Machine
end

