-- ==== Sys2Proof/Machine/Agents.lean ====
section
/-! DEFINITION. The steps of the agents and their order (00_scope.md R1, R2, R4; 20_memory.md R50). -/

namespace Sys2Proof.Machine

/-- Whether an agent may issue a descriptor (00_scope.md R4, 60_exceptions.md R209): `HOST` every one,
`RX[i]` with `i < N_IF` only a `FRAME` with `a = i` whose word count and length field are consistent. -/
def mayIssue (p : Params) (A : Issuer) (d : Descriptor) : Bool :=
  match A with
  | .host => true
  | .rx i =>
    decide (i.toNat < p.nIf) &&
    headerOp d.header == Opcode.frame.byte &&
    headerA d.header == i.setWidth 8 &&
    decide (d.rest.length = Opcode.frame.operandWords (headerB d.header)) &&
    decide ((headerB d.header).toNat ≤ p.maxFrame)

/-- Handling one descriptor of agent `A`: decode it and run it, or end it with the command error of
30_encoding.md R66, checks 1 and 2. -/
def issue (A : Issuer) (d : Descriptor) (s : State) : Result :=
  let t := { s with agent := A }
  match decode d with
  | .ok i => exec i t
  | .error e => .next (raiseCmdErr (headerOp d.header) (decodeStatus e) t)

/-- A turn of agent `A`: the forward step of its pending frame if its latch is full (45_learning_switch.md
R177; 00_scope.md R2: the next descriptor comes only after all steps of the previous one; log entry 4),
else its next descriptor, else nothing (log entry 3). -/
def agentTurn (A : Issuer) (s : State) : Result :=
  match s.pend.get A with
  | some p => .next (forwardStep p { s with agent := A })
  | none =>
    match s.queue.get A with
    | [] => .next s
    | d :: ds =>
      if mayIssue s.params A d then issue A d { s with queue := s.queue.set A ds }
      else .fault .rxDiscipline

/-- One turn of the total order of steps. -/
def runTurn (turn : Turn) (s : State) : Result :=
  match turn with
  | .agent A => agentTurn A s
  | .timer => .next (tick s)
  | .reset => .next (hardReset s)

/-- The next step: the turn at the head of the schedule; with none, nothing happens (log entry 3). -/
def nextStep (s : State) : Result :=
  match s.schedule with
  | [] => .next s
  | turn :: rest => runTurn turn { s with schedule := rest }

/-- `s` with a descriptor placed so that the very next step handles it: it is `HOST`'s turn, `HOST` has
no frame pending, and the descriptor is the next one `HOST` issues (log entry 10). -/
def withNextDescriptor (d : Descriptor) (s : State) : State :=
  { s with
    schedule := .agent .host :: s.schedule,
    queue := s.queue.set .host (d :: s.queue.get .host),
    pend := s.pend.set .host none }

end Sys2Proof.Machine
end

