-- ==== Sys2Proof/Machine/Step.lean ====
section
/-! DEFINITION. The step of the machine, and how one instruction is placed before it. -/

namespace Sys2Proof.Machine

/-- One atomic step of one agent (00_scope.md R2). -/
def step (s : State) : Host.Outcome State Fault Refusal := nextStep s

/-- `s` with the instruction whose bits are `w` (its first word in the low 32 bits) as the descriptor
that the next step handles (log entries 9 and 10). -/
def State.withFetchWord (s : State) (nbits w : Nat) : State := withNextDescriptor (tableDescriptor nbits w) s

end Sys2Proof.Machine
end

