-- ==== Sys2Proof/Safety.lean ====
section
/-! DEFINITION. What the statements call safe: the invariant of the engine's state, the reset condition,
and the measures the statements count with. -/

namespace Sys2Proof.Machine

/-- For every link address at most one valid slot of `MT` holds it (10_state.md R25). -/
def State.MacUnique (s : State) : Prop :=
  ∀ j k, (s.mtAt j).v = true → (s.mtAt k).v = true → (s.mtAt j).mac = (s.mtAt k).mac → j = k

/-- What holds of the engine between any two steps. -/
structure State.Inv (s : State) : Prop where
  /-- The parameters are in their ranges (00_scope.md R3). -/
  legal : s.params.Legal
  /-- `RT` has `RT_DEPTH` slots (10_state.md R21). -/
  rtLength : s.rt.length = s.params.rtDepth
  /-- `NB` has `NB_DEPTH` slots (10_state.md R22). -/
  nbLength : s.nb.length = s.params.nbDepth
  /-- `MT` has `MT_DEPTH` slots (10_state.md R24). -/
  mtLength : s.mt.length = s.params.mtDepth
  /-- `CTRL[31:4]` reads as 0 (10_state.md R13). -/
  ctrlZero : ctrlReserved s.ctrl = 0
  /-- `STATUS[31:2]` reads as 0 (10_state.md R14). -/
  statusZero : statusReserved s.status = 0
  /-- A valid route holds a contiguous mask and an interface below `N_IF` (10_state.md R21). -/
  routes : ∀ j, (s.rtAt j).v = true → contiguous (s.rtAt j).mask = true ∧ (s.rtAt j).iface.toNat < s.params.nIf
  /-- Interface slots `N_IF .. 15` stay 0 (10_state.md R23). -/
  absentIfs : ∀ e : IfaceId, s.params.nIf ≤ e.toNat → s.ifAt e = IfSlot.empty
  /-- A valid MAC table slot names an interface below `N_IF` (10_state.md R24). -/
  macIfaces : ∀ j, (s.mtAt j).v = true → (s.mtAt j).iface.toNat < s.params.nIf
  /-- One slot per link address (10_state.md R25). -/
  macUnique : s.MacUnique
  /-- A latched frame passed the descriptor checks and is no runt (10_state.md R26, 45_learning_switch.md R176). -/
  pendFrames : ∀ A p, s.pend.get A = some p →
    14 ≤ p.bytes.length ∧ p.bytes.length ≤ s.params.maxFrame ∧ p.iface.toNat < s.params.nIf
  /-- The latch of `RX[i]` holds a frame of interface `i` (00_scope.md R4). -/
  pendOwn : ∀ i p, s.pend.get (.rx i) = some p → p.iface = i
  /-- There is no transmit log above `N_IF` (00_scope.md R5). -/
  absentTx : ∀ e : IfaceId, s.params.nIf ≤ e.toNat → PerIface.get s.txLog e = []

/-- Every element of state but the pending-frame latches is at its reset value (10_state.md R27). -/
structure State.AtReset (s : State) : Prop where
  ctrl : s.ctrl = 0x00000004
  status : s.status = 0
  ageLimit : s.ageLimit = 15000
  sweepPeriod : s.sweepPeriod = 1000
  time : s.time = 0
  sweepLast : s.sweepLast = 0
  counters : s.counters = Counters.zero
  rt : s.rt = List.replicate s.params.rtDepth { v := false, pfx := 0, mask := 0, nextHop := 0, iface := 0 }
  nb : s.nb = List.replicate s.params.nbDepth { v := false, ip := 0, mac := 0 }
  ifs : ∀ e, s.ifAt e = { en := false, ip := 0, mac := 0 }
  mt : s.mt = List.replicate s.params.mtDepth { v := false, mac := 0, iface := 0, lastSeen := 0 }

/-- The descriptors that change no state (20_memory.md R49). -/
def readsOnly : Instr → Bool
  | .nop _ _ | .ctrlRd _ _ | .timeRd _ _ | .ifRd _ _ | .rtRd _ _ | .rtLkup _ _ _ => true
  | .nbRd _ _ | .nbLkup _ _ _ | .mtRd _ _ | .mtLkup _ _ _ _ | .csum _ _ | .hdrVfy _ _ => true
  | .ctrlWr _ _ _ | .softReset _ _ | .ifWr _ _ _ _ _ | .rtWr _ _ _ _ _ | .rtClr _ _ => false
  | .nbWr _ _ _ _ _ | .nbClr _ _ | .frame _ _ => false

/-- The sum of 60_exceptions.md R210: every counter that counts the end of a `FRAME`. -/
def State.frameTotal (s : State) : Word :=
  s.counters.routed + s.counters.switched + s.counters.flooded + s.counters.drop.toList.sum

/-- How many records of a response log are those of a `FRAME` with status `OK` (60_exceptions.md R210). -/
def okFrames (log : List (List Word)) : Nat := log.countP (fun r => r.head? == some (0x80000000 : Word))

/-- The next step handles `SOFT_RESET`: it is `HOST`'s turn, nothing of it is pending, and the opcode of
its next descriptor is 0x04. -/
def State.softResetNext (s : State) : Prop :=
  ∃ rest d ds, s.schedule = .agent .host :: rest ∧ s.pend.get .host = none ∧
    s.queue.get .host = d :: ds ∧ headerOp d.header = 0x04

/-- The next step handles a `SOFT_RESET` that carries its key: it is `HOST`'s turn, nothing of it is pending, and
its next descriptor is the one word `04005253` (40_control_ops.md R97). -/
def State.keyedResetNext (s : State) : Prop :=
  ∃ rest ds, s.schedule = .agent .host :: rest ∧ s.pend.get .host = none ∧
    s.queue.get .host = { header := 0x04005253, rest := [] } :: ds

/-- The next step is a hardware reset. -/
def State.hardResetNext (s : State) : Prop := ∃ rest, s.schedule = .reset :: rest

/-- `raise Drop(k + 1)` written out from 60_exceptions.md R203: counter 0x51 + `k` moves by one and the
record is the status word `OK` of `FRAME` and the verdict word of code `k + 1` with mask 0. -/
def droppedWith (k : Fin 10) (s : State) : State :=
  { s with
    counters := { s.counters with drop := s.counters.drop.set k.val (s.counters.drop[k] + 1) k.isLt },
    responses := s.responses.set s.agent
      (s.responses.get s.agent ++ [[(0x80000000 : Word), (BitVec.ofNat 32 (k.val + 1) : Word) <<< 24]]) }

/-- The command error of header byte `op` and status code `code` written out from 60_exceptions.md R206. -/
def refusedWith (op code : Byte) (s : State) : State :=
  { s with
    status := s.status ||| 0x00000002,
    responses := s.responses.set s.agent (s.responses.get s.agent ++ [[op ++ (0 : Half) ++ code]]) }

/-- The response record `r` is appended to the log of the issuing agent (30_encoding.md R68). -/
def answeredWith (r : List Word) (s : State) : State :=
  { s with responses := s.responses.set s.agent (s.responses.get s.agent ++ [r]) }

/-- The register numbers with the values they read as (10_state.md R12 to R16, R19, R20). -/
def registerSpace (s : State) : List (Byte × Word) :=
  [(0x00, 0x4C504D31), (0x01, BitVec.ofNat 32 s.params.nIf), (0x02, BitVec.ofNat 32 s.params.rtDepth),
   (0x03, BitVec.ofNat 32 s.params.nbDepth), (0x04, BitVec.ofNat 32 s.params.mtDepth),
   (0x05, BitVec.ofNat 32 s.params.maxFrame), (0x08, s.ctrl), (0x09, s.status), (0x0A, s.ageLimit),
   (0x0B, s.sweepPeriod), (0x40, s.counters.routed), (0x41, s.counters.switched),
   (0x42, s.counters.flooded), (0x43, s.counters.learnOvf), (0x44, s.counters.evict),
   (0x45, s.counters.sweep), (0x51, s.counters.drop[0]), (0x52, s.counters.drop[1]),
   (0x53, s.counters.drop[2]), (0x54, s.counters.drop[3]), (0x55, s.counters.drop[4]),
   (0x56, s.counters.drop[5]), (0x57, s.counters.drop[6]), (0x58, s.counters.drop[7]),
   (0x59, s.counters.drop[8]), (0x5A, s.counters.drop[9])]

/-- The rows of 30_encoding.md R62 with a fixed word count: the header byte and the count. -/
def fixedLengthRows : List (Nat × Nat) :=
  [(0x00, 1), (0x01, 1), (0x02, 2), (0x03, 1), (0x04, 1), (0x08, 4), (0x09, 1), (0x10, 4), (0x11, 1),
   (0x12, 1), (0x13, 2), (0x20, 4), (0x21, 1), (0x22, 1), (0x23, 2), (0x30, 1), (0x31, 3)]

/-- The rows of 30_encoding.md R62 of `1 + ceil(n / 4)` words, `n` the field `b`. -/
def payloadRows : List Nat := [0x40, 0x41, 0x80]

/-- Columns `fixed_bits_mask` and `fixed_bits_value` of spec/opcode_table.json (30_encoding.md R64). -/
def fixedBits : Opcode → Word × Word
  | .nop => (0xFFFFFFFF, 0x00000000)
  | .ctrlRd => (0xFF00FFFF, 0x01000000)
  | .ctrlWr => (0xFF00FFFF, 0x02000000)
  | .timeRd => (0xFFFFFFFF, 0x03000000)
  | .softReset => (0xFFFFFFFF, 0x04005253)
  | .ifWr => (0xFFF0FFFE, 0x08000000)
  | .ifRd => (0xFFF0FFFF, 0x09000000)
  | .rtWr => (0xFF00FF0E, 0x10000000)
  | .rtRd => (0xFF00FFFF, 0x11000000)
  | .rtClr => (0xFFFFFFFF, 0x12000000)
  | .rtLkup => (0xFFFFFFFF, 0x13000000)
  | .nbWr => (0xFF00FFFE, 0x20000000)
  | .nbRd => (0xFF00FFFF, 0x21000000)
  | .nbClr => (0xFFFFFFFF, 0x22000000)
  | .nbLkup => (0xFFFFFFFF, 0x23000000)
  | .mtRd => (0xFF00FFFF, 0x30000000)
  | .mtLkup => (0xFFFFFFFF, 0x31000000)
  | .csum => (0xFFFF0000, 0x40000000)
  | .hdrVfy => (0xFFFF0000, 0x41000000)
  | .frame => (0xFFF00000, 0x80000000)

/-- The byte count of an instruction is in the range of its row (30_encoding.md R63). -/
def lengthInRange (p : Params) : Instr → Prop
  | .csum _ bytes => bytes.length ≤ p.maxFrame
  | .hdrVfy _ bytes => 12 ≤ bytes.length ∧ bytes.length ≤ p.maxFrame
  | .frame _ bytes => bytes.length ≤ p.maxFrame
  | .nop _ _ | .ctrlRd _ _ | .ctrlWr _ _ _ | .timeRd _ _ | .softReset _ _ | .ifWr _ _ _ _ _ | .ifRd _ _
  | .rtWr _ _ _ _ _ | .rtRd _ _ | .rtClr _ _ | .rtLkup _ _ _
  | .nbWr _ _ _ _ _ | .nbRd _ _ | .nbClr _ _ | .nbLkup _ _ _
  | .mtRd _ _ | .mtLkup _ _ _ _ => True

/-- A `FRAME` of interface `a` that passes the descriptor checks and the drops before the dispatch
(44_router_forwarder.md R150). -/
structure Dispatched (a : Byte) (F : Frame) (s : State) : Prop where
  idSmall : a.toNat < 16
  idLegal : a.toNat < s.params.nIf
  fits : F.length ≤ s.params.maxFrame
  run : s.ctrl.getLsbD 0 = true
  configured : (s.ifAt (a.setWidth 4)).en = true
  noRunt : 14 ≤ F.length

/-- The IPv4 header is there (44_router_forwarder.md R152). -/
def HeaderPresent (F : Frame) : Prop :=
  34 ≤ F.length ∧ 5 ≤ (byteAt F 14).toNat % 16 ∧ 14 + 4 * ((byteAt F 14).toNat % 16) ≤ F.length

/-- The destination is the address of a configured interface (44_router_forwarder.md R155). -/
def SelfDestined (F : Frame) (s : State) : Prop :=
  ∃ e : IfaceId, e.toNat < s.params.nIf ∧ (s.ifAt e).en = true ∧ (s.ifAt e).ip = read32 F 30

/-- The slot numbers sorted by mask length, the longest first; the sort is stable, so equal lengths stay in
ascending order: the order of the sorted scan of 41_route_table_lpm.md R118. -/
def State.sortedSlots (s : State) : List Nat :=
  (List.range s.params.rtDepth).mergeSort (fun i j => decide (maskLen (s.rtAt j).mask ≤ maskLen (s.rtAt i).mask))

/-- One left-to-right pass over the slots `j, j+1, ...` of a route table, keeping the slot whose mask is
strictly longer than the best so far: an implementation that 41_route_table_lpm.md R118 leaves free. -/
def lpmScan (d : Word) : List RtSlot → Nat → Option (Nat × Nat) → Option (Nat × Nat)
  | [], _, best => best
  | x :: xs, j, best =>
    let better := x.v && rtMatches x d && (match best with
      | none => true
      | some (_, L) => decide (L < maskLen x.mask))
    lpmScan d xs (j + 1) (if better then some (j, maskLen x.mask) else best)

end Sys2Proof.Machine
end

