-- ==== Sys2Proof/Certificates/Slice0/Obligations.lean ====
section
/-! DEFINITION. The statements for the provers. Words and bytes of responses are written out from the
spec; `answeredWith`, `refusedWith` and `droppedWith` of Safety.lean are record updates, so an equation
`exec i s = .next (answeredWith r u)` also says that everything not named is unchanged. -/

open Sys2Proof Sys2Proof.Machine

/-! ### Encoding -/

/-- Decoding the words of an instruction whose byte count, if it has one, fits the field `b` gives it back,
every operand and reserved bit included
(30_encoding.md R61, R62; 20_memory.md R43). -/
def Obligations.DecodeEncodeRoundTrip : Prop :=
  ∀ i : Instr, i.encodable = true → decode (encode i) = .ok i

/-- A descriptor without payload that decodes is the encoding of what it decodes to: no two words mean
the same instruction (30_encoding.md R61, R62). -/
def Obligations.EncodeDecodeRoundTrip : Prop :=
  ∀ (d : Descriptor) (i : Instr), decode d = .ok i → i.payload = none → encode i = d

/-- The bytes of a payload: `b` many, byte `k` in bits `31 - 8 (k mod 4)` down of payload word `k div 4`,
whatever the padding holds (20_memory.md R43). -/
def Obligations.PayloadBytesAreBigEndian : Prop :=
  ∀ (d : Descriptor) (i : Instr) (bytes : List Byte), decode d = .ok i → i.payload = some bytes →
    bytes.length = (headerB d.header).toNat ∧ d.rest.length = (bytes.length + 3) / 4 ∧
    ∀ k, k < bytes.length →
      byteAt bytes k = (d.rest.getD (k / 4) 0).extractLsb' (24 - 8 * (k % 4)) 8

/-- The twelve example rows of 30_encoding.md section 6 decode to the descriptors they are given for; the row of
`FRAME` gives its header word and the count of its payload words, so it is stated for every eleven words. -/
def Obligations.ExampleWordsDecode : Prop :=
  decode ⟨0x00000000, []⟩ = .ok (.nop 0 0) ∧
  decode ⟨0x01080000, []⟩ = .ok (.ctrlRd 0x08 0) ∧
  decode ⟨0x02080000, [0x00000007]⟩ = .ok (.ctrlWr 0x08 0 7) ∧
  decode ⟨0x03000000, []⟩ = .ok (.timeRd 0 0) ∧
  decode ⟨0x04005253, []⟩ = .ok (.softReset 0 0x5253) ∧
  decode ⟨0x08010001, [0x0A000001, 0x00000A00, 0x00000002]⟩ = .ok (.ifWr 1 1 0x0A000001 0x0A00 0x02) ∧
  decode ⟨0x10010011, [0x0A000000, 0xFFFFFF00, 0x00000000]⟩ = .ok (.rtWr 1 0x11 0x0A000000 0xFFFFFF00 0) ∧
  decode ⟨0x13000000, [0x0A000005]⟩ = .ok (.rtLkup 0 0 0x0A000005) ∧
  decode ⟨0x20000001, [0x0A000005, 0x00000A00, 0x00000055]⟩ = .ok (.nbWr 0 1 0x0A000005 0x0A00 0x55) ∧
  decode ⟨0x31000000, [0x00000A00, 0x000000AA]⟩ = .ok (.mtLkup 0 0 0x0A00 0xAA) ∧
  decode ⟨0x40000003, [0x0001F200]⟩ = .ok (.csum 0 [0x00, 0x01, 0xF2]) ∧
  ∀ ws : List Word, ws.length = 11 → ∃ F : Frame, F.length = 42 ∧ decode ⟨0x8002002A, ws⟩ = .ok (.frame 2 F)

/-- A descriptor is an instruction of the model exactly when its `op` is in the table and its word count is the
one the table gives (30_encoding.md R62, R65, and the word count of R63). THE MODEL'S CHOICE (log entry 8): R63
puts the range of the byte count into the same check, and the model leaves that to the meanings, so a byte count
out of range decodes and its meaning ends with `ERR_LEN`. -/
def Obligations.DecodableExactlyByTable : Prop :=
  ∀ d : Descriptor, (∃ i, decode d = .ok i) ↔
    ((headerOp d.header).toNat, 1 + d.rest.length) ∈ fixedLengthRows ∨
    ((headerOp d.header).toNat ∈ payloadRows ∧ 1 + d.rest.length = 1 + ((headerB d.header).toNat + 3) / 4)

/-! ### Command errors -/

/-- An illegal opcode, issued by `HOST`, ends with `ERR_OPCODE` whatever its length and other fields; the
header byte is echoed (30_encoding.md R65, R66; 60_exceptions.md R206). -/
def Obligations.IllegalOpcodeRaisesErrOpcode : Prop :=
  ∀ (s : State) (rest : List Turn) (d : Descriptor) (ds : List Descriptor),
    s.schedule = .agent .host :: rest → s.pend.get .host = none → s.queue.get .host = d :: ds →
    (∀ k, ((headerOp d.header).toNat, k) ∉ fixedLengthRows) → (headerOp d.header).toNat ∉ payloadRows →
    step s = .next (refusedWith (headerOp d.header) 0x01
      { s with schedule := rest, queue := s.queue.set .host ds, agent := .host })

/-- A descriptor of a legal opcode whose word count is wrong, or whose byte count is out of range, issued by
`HOST`, ends with `ERR_LEN`, reserved bits or not (30_encoding.md R63, R66). -/
def Obligations.WrongLengthRaisesErrLen : Prop :=
  ∀ (s : State) (rest : List Turn) (d : Descriptor) (ds : List Descriptor),
    s.schedule = .agent .host :: rest → s.pend.get .host = none → s.queue.get .host = d :: ds →
    ((∃ k, ((headerOp d.header).toNat, k) ∈ fixedLengthRows ∧ 1 + d.rest.length ≠ k) ∨
     ((headerOp d.header).toNat ∈ payloadRows ∧ 1 + d.rest.length ≠ 1 + ((headerB d.header).toNat + 3) / 4) ∨
     ((headerOp d.header).toNat ∈ payloadRows ∧ s.params.maxFrame < (headerB d.header).toNat) ∨
     ((headerOp d.header).toNat = 0x41 ∧ (headerB d.header).toNat < 12)) →
    step s = .next (refusedWith (headerOp d.header) 0x02
      { s with schedule := rest, queue := s.queue.set .host ds, agent := .host })

/-- A header bit that the table fixes and that has the other value ends the instruction with `ERR_FIELD`
(30_encoding.md R64), once the byte count is in range (R66). -/
def Obligations.ReservedHeaderBitsRaiseErrField : Prop :=
  ∀ (s : State) (i : Instr), lengthInRange s.params i → i.encodable = true →
    (encode i).header &&& (fixedBits i.opcode).1 ≠ (fixedBits i.opcode).2 →
    exec i s = .next (refusedWith i.opcode.byte 0x03 s)

/-- Whatever the instruction: if its response carries a status other than `OK`, then the response is that
one word and nothing else changed but `STATUS.CMD_ERR` (60_exceptions.md R206). -/
def Obligations.FailedDescriptorOnlySetsCmdErr : Prop :=
  ∀ (i : Instr) (s t : State) (w : Word) (ws : List Word), exec i s = .next t →
    t.responses = s.responses.set s.agent (s.responses.get s.agent ++ [w :: ws]) →
    w.extractLsb' 0 8 ≠ 0 →
    ws = [] ∧ w.extractLsb' 24 8 = i.opcode.byte ∧ w.extractLsb' 8 16 = 0 ∧
    t = { s with status := s.status ||| 0x00000002, responses := t.responses }

/-- An instruction appends exactly one record, which echoes its opcode, to its agent's log; only a `FRAME`
may instead answer nothing yet and leave its bytes and its ingress interface in the agent's latch
(30_encoding.md R68, R69; 45_learning_switch.md R175, R176). -/
def Obligations.OneRecordPerInstruction : Prop :=
  ∀ (i : Instr) (s : State),
    (∃ t w ws, exec i s = .next t ∧ t.pend = s.pend ∧
      t.responses = s.responses.set s.agent (s.responses.get s.agent ++ [w :: ws]) ∧
      w.extractLsb' 24 8 = i.opcode.byte ∧ w.extractLsb' 8 16 = 0) ∨
    (∃ t a F, i = .frame a F ∧ exec i s = .next t ∧ t.responses = s.responses ∧
      t.pend = s.pend.set s.agent (some { bytes := F, iface := a.setWidth 4 }))

/-! ### Invariants and whole-machine rules -/

/-- The reset state meets the invariant, at the model's parameter setting (log entry 1) and at every legal one. -/
def Obligations.ResetMeetsInvariant : Prop :=
  State.reset.Inv ∧ ∀ p : Params, p.Legal → (State.resetWith p).Inv

/-- Every step keeps the invariant of Safety.lean: table sizes, reserved bits, legal routes, absent
interfaces, the MAC table, the latches and the transmit logs. -/
def Obligations.StepKeepsInvariant : Prop :=
  ∀ s t : State, s.Inv → step s = .next t → t.Inv

/-- At most one valid slot of `MT` per link address, after reset and after every step (10_state.md R25). -/
def Obligations.MacTableHoldsOneSlotPerAddress : Prop :=
  (∀ p : Params, (State.resetWith p).MacUnique) ∧
  ∀ s t : State, s.mt.length = s.params.mtDepth → s.MacUnique → step s = .next t → t.MacUnique

/-- No valid entry of `MT` was last seen in the future, as long as `TIME` does not wrap
(45_learning_switch.md R191, 70_reset_and_hazards.md R230). -/
def Obligations.LastSeenNeverInTheFuture : Prop :=
  ∀ s t : State, (∀ j, (s.mtAt j).v = true → (s.mtAt j).lastSeen.toNat ≤ s.time.toNat) →
    s.time.toNat + 1 < 2 ^ 64 → step s = .next t →
    ∀ j, (t.mtAt j).v = true → (t.mtAt j).lastSeen.toNat ≤ t.time.toNat

/-- `TIME` moves by one in a `TICK`, goes to 0 in a hardware reset and in an accepted `SOFT_RESET`, and is left
alone by every other step (10_state.md R17, R27). -/
def Obligations.TimeMovesOnlyByTickOrReset : Prop :=
  ∀ s t : State, step s = .next t →
    ((∃ rest, s.schedule = .timer :: rest) → t.time = s.time + 1) ∧
    (s.hardResetNext → t.time = 0) ∧
    (s.keyedResetNext → t.time = 0) ∧
    ((¬ ∃ rest, s.schedule = .timer :: rest) → ¬ s.hardResetNext → ¬ s.keyedResetNext → t.time = s.time)

/-- While `RUN` is 1 no step but a reset changes `RT`, `NB`, `IF`, `MODE` or `NH_GW` (20_memory.md R51). -/
def Obligations.TablesFixedWhileRunning : Prop :=
  ∀ s t : State, step s = .next t → s.ctrl.getLsbD 0 = true → ¬ s.hardResetNext → ¬ s.softResetNext →
    t.rt = s.rt ∧ t.nb = s.nb ∧ t.ifs = s.ifs ∧
    t.ctrl.getLsbD 1 = s.ctrl.getLsbD 1 ∧ t.ctrl.getLsbD 3 = s.ctrl.getLsbD 3

/-- A step of `RX[i]` writes no host-loaded table, no control register but `STATUS`, no time, no parameter,
and no log or latch of another agent (60_exceptions.md R209). -/
def Obligations.RxStepCannotWriteHostState : Prop :=
  ∀ (s t : State) (i : IfaceId) (rest : List Turn), s.schedule = .agent (.rx i) :: rest → step s = .next t →
    t.params = s.params ∧ t.ctrl = s.ctrl ∧ t.ageLimit = s.ageLimit ∧ t.sweepPeriod = s.sweepPeriod ∧
    t.time = s.time ∧ t.sweepLast = s.sweepLast ∧ t.rt = s.rt ∧ t.nb = s.nb ∧ t.ifs = s.ifs ∧
    t.schedule = rest ∧
    ∀ B, B ≠ .rx i → t.responses.get B = s.responses.get B ∧ t.pend.get B = s.pend.get B ∧
      t.queue.get B = s.queue.get B

/-- Every step answers a next state (20_memory.md R53); the one exception is an `RX[i]` agent about to issue
what 00_scope.md R4 says it never issues, on which the model stops (log entry 5). -/
def Obligations.EveryStepCompletes : Prop :=
  ∀ s : State, (∃ t, step s = .next t) ∨
    (step s = .fault .rxDiscipline ∧
      ∃ i rest d ds, s.schedule = .agent (.rx i) :: rest ∧ s.pend.get (.rx i) = none ∧
        s.queue.get (.rx i) = d :: ds ∧
        ¬ (i.toNat < s.params.nIf ∧ ∃ n : Half, n.toNat ≤ s.params.maxFrame ∧
            d.header = (0x80 : Byte) ++ (i.setWidth 8 : Byte) ++ n ∧ d.rest.length = (n.toNat + 3) / 4))

/-- The twelve reading descriptors change no state: their response is the only effect, and on a command
error `STATUS.CMD_ERR` as well (20_memory.md R49). -/
def Obligations.ReadsHaveNoSideEffect : Prop :=
  ∀ (i : Instr) (s : State), readsOnly i = true →
    (∃ ws, exec i s = .next (answeredWith ((i.opcode.byte ++ (0 : BitVec 24)) :: ws) s)) ∨
    (∃ code : Byte, code ≠ 0 ∧ exec i s = .next (refusedWith i.opcode.byte code s))

/-- The verdict counters count the `FRAME` descriptors that end with status `OK`: in every step of an issuing
agent but a `SOFT_RESET` their sum moves by the number of such records the step appends to that agent's log, no
other log moves, and a `TICK` moves neither (60_exceptions.md R210). -/
def Obligations.VerdictCountersCountFrames : Prop :=
  ∀ s t : State, step s = .next t →
    (∀ A rest, s.schedule = .agent A :: rest → ¬ s.softResetNext →
      t.frameTotal + BitVec.ofNat 32 (okFrames (s.responses.get A)) =
        s.frameTotal + BitVec.ofNat 32 (okFrames (t.responses.get A)) ∧
      ∀ B, B ≠ A → t.responses.get B = s.responses.get B) ∧
    (∀ rest, s.schedule = .timer :: rest → t.frameTotal = s.frameTotal ∧ t.responses = s.responses)

/-- Both kinds of log only grow, at the end, resets included (00_scope.md R5, 70_reset_and_hazards.md R220). -/
def Obligations.LogsOnlyGrow : Prop :=
  ∀ s t : State, step s = .next t →
    (∀ A, s.responses.get A <+: t.responses.get A) ∧
    (∀ e : IfaceId, PerIface.get s.txLog e <+: PerIface.get t.txLog e)

/-! ### Steps -/

/-- When it is the turn of `HOST`, nothing of it is pending and its next descriptor decodes to `i`, the step
is `exec i` on the state with the turn and the descriptor taken and `HOST` as the issuing agent. Turns and
queues are the model's input fields (log entry 2). -/
def Obligations.HostStepRunsDecodedInstruction : Prop :=
  ∀ (s : State) (rest : List Turn) (d : Descriptor) (ds : List Descriptor) (i : Instr),
    s.schedule = .agent .host :: rest → s.pend.get .host = none → s.queue.get .host = d :: ds →
    decode d = .ok i →
    step s = exec i { s with schedule := rest, queue := s.queue.set .host ds, agent := .host }

/-- The same for `RX[j]` with `j < N_IF` and a descriptor that decodes to a `FRAME` of its own interface, whatever
its padding bytes hold (00_scope.md R4, 20_memory.md R43). Turns and queues are the model's input fields (log
entry 2). -/
def Obligations.RxStepRunsItsFrame : Prop :=
  ∀ (s : State) (rest : List Turn) (d : Descriptor) (ds : List Descriptor) (j : IfaceId) (F : Frame),
    s.schedule = .agent (.rx j) :: rest → s.pend.get (.rx j) = none → s.queue.get (.rx j) = d :: ds →
    decode d = .ok (.frame (j.setWidth 8) F) → j.toNat < s.params.nIf → F.length ≤ s.params.maxFrame →
    step s = exec (.frame (j.setWidth 8) F)
      { s with schedule := rest, queue := s.queue.set (.rx j) ds, agent := .rx j }

/-- THE MODEL'S CHOICE (log entry 3): with an empty schedule a step changes nothing, and the turn of an agent
with nothing pending and nothing to issue only passes. -/
def Obligations.IdleTurnChangesNothing : Prop :=
  (∀ s : State, s.schedule = [] → step s = .next s) ∧
  ∀ (s : State) (A : Issuer) (rest : List Turn), s.schedule = .agent A :: rest →
    s.pend.get A = none → s.queue.get A = [] → step s = .next { s with schedule := rest }

/-- A hardware reset: every element of state at its reset value, the latches empty, the logs kept
(70_reset_and_hazards.md R220, 10_state.md R27). That it is a turn of the schedule is log entry 12. -/
def Obligations.HardwareResetState : Prop :=
  ∀ (s : State) (rest : List Turn), s.schedule = .reset :: rest →
    ∃ t, step s = .next t ∧ t.AtReset ∧ (∀ A, t.pend.get A = none) ∧ t.params = s.params ∧
      t.responses = s.responses ∧ t.txLog = s.txLog ∧ t.queue = s.queue ∧ t.schedule = rest

/-! ### Control operations -/

/-- `SOFT_RESET` puts every element at its reset value but the latches, which keep their content, and keeps
the logs; without the key it is refused (40_control_ops.md R97). -/
def Obligations.SoftResetKeepsLatchesAndLogs : Prop :=
  ∀ s : State, (∃ t, exec (.softReset 0 0x5253) s = .next (answeredWith [0x04000000] t) ∧ t.AtReset ∧
      t.params = s.params ∧ t.pend = s.pend ∧ t.responses = s.responses ∧ t.txLog = s.txLog ∧
      t.queue = s.queue ∧ t.schedule = s.schedule ∧ t.agent = s.agent) ∧
    ∀ (a : Byte) (b : Half), (a ≠ 0 ∨ b ≠ 0x5253) →
      exec (.softReset a b) s = .next (refusedWith 0x04 0x03 s)

/-- `NOP` only responds; `TIME_RD` responds with the two times, high words first (40_control_ops.md R90,
R96; 20_memory.md R45). -/
def Obligations.NopAndTimeRdRespond : Prop :=
  ∀ s : State, exec (.nop 0 0) s = .next (answeredWith [0x00000000] s) ∧
    exec (.timeRd 0 0) s = .next (answeredWith
      [0x03000000, (s.time >>> 32).setWidth 32, s.time.setWidth 32,
       (s.sweepLast >>> 32).setWidth 32, s.sweepLast.setWidth 32] s)

/-- `CTRL_RD` of each number of the register space gives that register; of any other number, `ERR_REG`
(40_control_ops.md R91, 10_state.md R20). -/
def Obligations.CtrlRdReadsTheRegisterSpace : Prop :=
  ∀ s : State, (∀ r ∈ registerSpace s, exec (.ctrlRd r.1 0) s = .next (answeredWith [0x01000000, r.2] s)) ∧
    ∀ a : Byte, (∀ r ∈ registerSpace s, r.1 ≠ a) → exec (.ctrlRd a 0) s = .next (refusedWith 0x01 0x04 s)

/-- `CTRL_WR` to `CTRL`: a reserved bit, a mode change while running, a plain write, the start of a running
period (40_control_ops.md R93). -/
def Obligations.CtrlWrToCtrl : Prop :=
  ∀ (s : State) (w : Word),
    (16 ≤ w.toNat → exec (.ctrlWr 0x08 0 w) s = .next (refusedWith 0x02 0x03 s)) ∧
    (w.toNat < 16 → s.ctrl.getLsbD 0 = true →
      (w.getLsbD 1 ≠ s.ctrl.getLsbD 1 ∨ w.getLsbD 3 ≠ s.ctrl.getLsbD 3) →
      exec (.ctrlWr 0x08 0 w) s = .next (refusedWith 0x02 0x06 s)) ∧
    (w.toNat < 16 → s.ctrl.getLsbD 0 = true → w.getLsbD 1 = s.ctrl.getLsbD 1 → w.getLsbD 3 = s.ctrl.getLsbD 3 →
      exec (.ctrlWr 0x08 0 w) s = .next (answeredWith [0x02000000] { s with ctrl := w })) ∧
    (w.toNat < 16 → s.ctrl.getLsbD 0 = false → w.getLsbD 0 = false →
      exec (.ctrlWr 0x08 0 w) s = .next (answeredWith [0x02000000] { s with ctrl := w })) ∧
    (w.toNat < 16 → s.ctrl.getLsbD 0 = false → w.getLsbD 0 = true →
      exec (.ctrlWr 0x08 0 w) s = .next (answeredWith [0x02000000]
        { s with ctrl := w, sweepLast := s.time,
                 mt := List.replicate s.params.mtDepth { v := false, mac := 0, iface := 0, lastSeen := 0 } }))

/-- `CTRL_WR` to `STATUS` clears the bits written as 1 (40_control_ops.md R94). -/
def Obligations.CtrlWrToStatusClearsOnes : Prop :=
  ∀ (s : State) (w : Word),
    (4 ≤ w.toNat → exec (.ctrlWr 0x09 0 w) s = .next (refusedWith 0x02 0x03 s)) ∧
    (w.toNat < 4 → ∃ u : Word, (∀ k < 32, u.getLsbD k = (s.status.getLsbD k && !w.getLsbD k)) ∧
      exec (.ctrlWr 0x09 0 w) s = .next (answeredWith [0x02000000] { s with status := u }))

/-- `CTRL_WR` to `AGE_LIMIT` and `SWEEP_PERIOD` takes every value at any time; every number that is not one
of the four writable registers is `ERR_REG` (40_control_ops.md R92, R95). -/
def Obligations.CtrlWrToTheOtherRegisters : Prop :=
  ∀ (s : State) (w : Word),
    exec (.ctrlWr 0x0A 0 w) s = .next (answeredWith [0x02000000] { s with ageLimit := w }) ∧
    exec (.ctrlWr 0x0B 0 w) s = .next (answeredWith [0x02000000] { s with sweepPeriod := w }) ∧
    ∀ a : Byte, a ∉ ([0x08, 0x09, 0x0A, 0x0B] : List Byte) →
      exec (.ctrlWr a 0 w) s = .next (refusedWith 0x02 0x04 s)

/-- `IF_WR` with its reserved header bits 0: index, then `MAC_HI`, then busy, then the whole slot is written
and no other (40_control_ops.md R98). -/
def Obligations.IfWrWritesOneSlot : Prop :=
  ∀ (s : State) (e : IfaceId) (en : Bool) (ip hi lo : Word),
    let i : Instr := .ifWr (e.setWidth 8) ((BitVec.ofBool en).setWidth 16) ip hi lo
    (s.params.nIf ≤ e.toNat → exec i s = .next (refusedWith 0x08 0x05 s)) ∧
    (e.toNat < s.params.nIf → 65536 ≤ hi.toNat → exec i s = .next (refusedWith 0x08 0x03 s)) ∧
    (e.toNat < s.params.nIf → hi.toNat < 65536 → s.ctrl.getLsbD 0 = true →
      exec i s = .next (refusedWith 0x08 0x06 s)) ∧
    (e.toNat < s.params.nIf → hi.toNat < 65536 → s.ctrl.getLsbD 0 = false →
      ∃ ifs : PerIface IfSlot, exec i s = .next (answeredWith [0x08000000] { s with ifs := ifs }) ∧
        PerIface.get ifs e = { en := en, ip := ip, mac := (hi.setWidth 16 : Half) ++ lo } ∧
        ∀ f, f ≠ e → PerIface.get ifs f = PerIface.get s.ifs f)

/-- The four slot reads give the whole slot, or `ERR_INDEX` at and above the depth (40_control_ops.md R99,
41_route_table_lpm.md R115, 42_neighbor_cache.md R127, 45_learning_switch.md R193). -/
def Obligations.SlotReadsGiveTheSlot : Prop :=
  ∀ (s : State) (a : Byte) (e : IfaceId),
    (if e.toNat < s.params.nIf then
      exec (.ifRd (e.setWidth 8) 0) s = .next (answeredWith
        [0x09000000, (BitVec.ofBool (s.ifAt e).en).setWidth 32, (s.ifAt e).ip,
         ((s.ifAt e).mac >>> 32).setWidth 32, (s.ifAt e).mac.setWidth 32] s)
     else exec (.ifRd (e.setWidth 8) 0) s = .next (refusedWith 0x09 0x05 s)) ∧
    (if a.toNat < s.params.rtDepth then
      exec (.rtRd a 0) s = .next (answeredWith
        [0x11000000, ((s.rtAt a.toNat).iface.setWidth 32 <<< 4) ||| (BitVec.ofBool (s.rtAt a.toNat).v).setWidth 32,
         (s.rtAt a.toNat).pfx, (s.rtAt a.toNat).mask, (s.rtAt a.toNat).nextHop] s)
     else exec (.rtRd a 0) s = .next (refusedWith 0x11 0x05 s)) ∧
    (if a.toNat < s.params.nbDepth then
      exec (.nbRd a 0) s = .next (answeredWith
        [0x21000000, (BitVec.ofBool (s.nbAt a.toNat).v).setWidth 32, (s.nbAt a.toNat).ip,
         ((s.nbAt a.toNat).mac >>> 32).setWidth 32, (s.nbAt a.toNat).mac.setWidth 32] s)
     else exec (.nbRd a 0) s = .next (refusedWith 0x21 0x05 s)) ∧
    (if a.toNat < s.params.mtDepth then
      exec (.mtRd a 0) s = .next (answeredWith
        [0x30000000, ((s.mtAt a.toNat).iface.setWidth 32 <<< 4) ||| (BitVec.ofBool (s.mtAt a.toNat).v).setWidth 32,
         ((s.mtAt a.toNat).mac >>> 32).setWidth 32, (s.mtAt a.toNat).mac.setWidth 32,
         ((s.mtAt a.toNat).lastSeen >>> 32).setWidth 32, (s.mtAt a.toNat).lastSeen.setWidth 32] s)
     else exec (.mtRd a 0) s = .next (refusedWith 0x30 0x05 s))

/-! ### Route table -/

/-- `RT_WR` with its reserved header bits 0: index, then mask and interface of a valid entry, then busy, then
the whole slot is written and no other (41_route_table_lpm.md R114). -/
def Obligations.RtWrWritesOneSlot : Prop :=
  ∀ (s : State) (a : Byte) (v : Bool) (f : IfaceId) (pfx mask nextHop : Word),
    let i : Instr := .rtWr a ((f.setWidth 16 <<< 4) ||| (BitVec.ofBool v).setWidth 16) pfx mask nextHop
    let legal := v = true → (∃ L ≤ 32, mask = maskOf L) ∧ f.toNat < s.params.nIf
    (s.params.rtDepth ≤ a.toNat → exec i s = .next (refusedWith 0x10 0x05 s)) ∧
    (a.toNat < s.params.rtDepth → ¬ legal → exec i s = .next (refusedWith 0x10 0x03 s)) ∧
    (a.toNat < s.params.rtDepth → legal → s.ctrl.getLsbD 0 = true → exec i s = .next (refusedWith 0x10 0x06 s)) ∧
    (a.toNat < s.params.rtDepth → legal → s.ctrl.getLsbD 0 = false → s.rt.length = s.params.rtDepth →
      ∃ rt : List RtSlot, exec i s = .next (answeredWith [0x10000000] { s with rt := rt }) ∧
        rt.length = s.rt.length ∧
        rt[a.toNat]? = some { v := v, pfx := pfx, mask := mask, nextHop := nextHop, iface := f } ∧
        ∀ k, k ≠ a.toNat → rt[k]? = s.rt[k]?)

/-- `RT_CLR` and `NB_CLR` empty their table, and only while stopped; afterwards every lookup misses
(41_route_table_lpm.md R116, 42_neighbor_cache.md R128). -/
def Obligations.ClearsEmptyTheirTable : Prop :=
  ∀ s : State,
    (s.ctrl.getLsbD 0 = true → exec (.rtClr 0 0) s = .next (refusedWith 0x12 0x06 s) ∧
      exec (.nbClr 0 0) s = .next (refusedWith 0x22 0x06 s)) ∧
    (s.ctrl.getLsbD 0 = false →
      (∃ rt, exec (.rtClr 0 0) s = .next (answeredWith [0x12000000] { s with rt := rt }) ∧
        rt.length = s.params.rtDepth ∧ (∀ x ∈ rt, x = { v := false, pfx := 0, mask := 0, nextHop := 0, iface := 0 }) ∧
        ∀ d, State.lpm { s with rt := rt } d = none) ∧
      (∃ nb, exec (.nbClr 0 0) s = .next (answeredWith [0x22000000] { s with nb := nb }) ∧
        nb.length = s.params.nbDepth ∧ (∀ x ∈ nb, x = { v := false, ip := 0, mac := 0 }) ∧
        ∀ x, State.nbLookup { s with nb := nb } x = none))

/-- `lpm` answers the matching valid slot of longest mask, the lowest one on a tie, and `none` exactly when
no valid slot matches (41_route_table_lpm.md R110, R111, R113). -/
def Obligations.LpmIsLongestThenLowest : Prop :=
  ∀ (s : State) (d : Word),
    let matching := fun i => i < s.params.rtDepth ∧ (s.rtAt i).v = true ∧
      d &&& (s.rtAt i).mask = (s.rtAt i).pfx &&& (s.rtAt i).mask
    (s.lpm d = none ↔ ∀ i, ¬ matching i) ∧
    ∀ i, s.lpm d = some i ↔ matching i ∧ ∀ j, matching j →
      maskLen (s.rtAt j).mask < maskLen (s.rtAt i).mask ∨
      (maskLen (s.rtAt j).mask = maskLen (s.rtAt i).mask ∧ i ≤ j)

/-- `mask_of(L)` has its `L` top bits set, its length is `L`, longer means greater, and a mask is contiguous
exactly when its complement and that plus one share no bit (41_route_table_lpm.md R112). -/
def Obligations.ContiguousMasks : Prop :=
  (∀ L ≤ 32, (∀ k < 32, (maskOf L).getLsbD k = decide (32 ≤ k + L)) ∧ contiguous (maskOf L) = true ∧
    maskLen (maskOf L) = L) ∧
  (∀ L ≤ 32, ∀ K ≤ 32, (maskOf L).toNat < (maskOf K).toNat ↔ L < K) ∧
  ∀ m : Word, contiguous m = true ↔ (~~~ m) &&& (~~~ m + 1) = 0

/-- The lookup equals the first match in the slots sorted by mask length, longest first and equal lengths by
index, and it equals one left-to-right scan of the unsorted table that keeps the first strictly longer match: two
implementations that 41_route_table_lpm.md R118 leaves free. -/
def Obligations.LpmEqualsSortedScan : Prop :=
  ∀ (s : State) (d : Word),
    s.lpm d = s.sortedSlots.find? (fun i => (s.rtAt i).v && rtMatches (s.rtAt i) d) ∧
    (s.rt.length = s.params.rtDepth → s.lpm d = (lpmScan d s.rt 0 none).map Prod.fst)

/-- `RT_LKUP` answers the slot that `lpm` finds, or five words with zero data (41_route_table_lpm.md R117). -/
def Obligations.RtLkupReportsLpm : Prop :=
  ∀ (s : State) (d : Word),
    (s.lpm d = none → exec (.rtLkup 0 0 d) s = .next (answeredWith [0x13000000, 0, 0, 0, 0] s)) ∧
    ∀ i, s.lpm d = some i → exec (.rtLkup 0 0 d) s = .next (answeredWith
      [0x13000000,
       0x80000000 ||| ((BitVec.ofNat 8 i).setWidth 32 <<< 16) ||| ((s.rtAt i).iface.setWidth 32 <<< 4),
       (s.rtAt i).nextHop, (s.rtAt i).pfx, (s.rtAt i).mask] s)

/-! ### Neighbour cache -/

/-- `NB_WR` with its reserved header bits 0: index, then `MAC_HI`, then busy, then the whole slot is written
and no other (42_neighbor_cache.md R126). -/
def Obligations.NbWrWritesOneSlot : Prop :=
  ∀ (s : State) (a : Byte) (v : Bool) (ip hi lo : Word),
    let i : Instr := .nbWr a ((BitVec.ofBool v).setWidth 16) ip hi lo
    (s.params.nbDepth ≤ a.toNat → exec i s = .next (refusedWith 0x20 0x05 s)) ∧
    (a.toNat < s.params.nbDepth → 65536 ≤ hi.toNat → exec i s = .next (refusedWith 0x20 0x03 s)) ∧
    (a.toNat < s.params.nbDepth → hi.toNat < 65536 → s.ctrl.getLsbD 0 = true →
      exec i s = .next (refusedWith 0x20 0x06 s)) ∧
    (a.toNat < s.params.nbDepth → hi.toNat < 65536 → s.ctrl.getLsbD 0 = false → s.nb.length = s.params.nbDepth →
      ∃ nb : List NbSlot, exec i s = .next (answeredWith [0x20000000] { s with nb := nb }) ∧
        nb.length = s.nb.length ∧
        nb[a.toNat]? = some { v := v, ip := ip, mac := (hi.setWidth 16 : Half) ++ lo } ∧
        ∀ k, k ≠ a.toNat → nb[k]? = s.nb[k]?)

/-- `nb_lookup` answers the lowest valid slot that holds the address; the key of the pipeline is the
destination unless `NH_GW` is set and the route has a gateway (42_neighbor_cache.md R125, R130). -/
def Obligations.NeighborLookupAndKey : Prop :=
  ∀ (s : State) (x : Word),
    (s.nbLookup x = none ↔ ∀ i < s.params.nbDepth, ¬ ((s.nbAt i).v = true ∧ (s.nbAt i).ip = x)) ∧
    (∀ i, s.nbLookup x = some i ↔ (i < s.params.nbDepth ∧ (s.nbAt i).v = true ∧ (s.nbAt i).ip = x) ∧
      ∀ j < i, ¬ ((s.nbAt j).v = true ∧ (s.nbAt j).ip = x)) ∧
    ∀ r, s.nbKey r x = if s.ctrl.getLsbD 3 = true ∧ (s.rtAt r).nextHop ≠ 0 then (s.rtAt r).nextHop else x

/-- `NB_LKUP` answers the slot that `nb_lookup` finds, or zero data (42_neighbor_cache.md R129). -/
def Obligations.NbLkupReportsNbLookup : Prop :=
  ∀ (s : State) (x : Word),
    (s.nbLookup x = none → exec (.nbLkup 0 0 x) s = .next (answeredWith [0x23000000, 0, 0, 0] s)) ∧
    ∀ i, s.nbLookup x = some i → exec (.nbLkup 0 0 x) s = .next (answeredWith
      [0x23000000, 0x80000000 ||| ((BitVec.ofNat 8 i).setWidth 32 <<< 16),
       ((s.nbAt i).mac >>> 32).setWidth 32, (s.nbAt i).mac.setWidth 32] s)

/-! ### Checksum -/

/-- The folded sum is 0 for 0 and `1 + ((S - 1) mod 65535)` otherwise (43_checksum.md R135). -/
def Obligations.FoldedSumClosedForm : Prop :=
  ∀ S : Nat, foldSum S = if S = 0 then 0 else 1 + (S - 1) % 65535

/-- The four properties of `cksum` in 43_checksum.md R136: when it is `0xFFFF`, order of words, appended
zeros, and that a buffer with its own checksum in it sums to 0. -/
def Obligations.ChecksumProperties : Prop :=
  (∀ B : List Byte, cksum B = 0xFFFF ↔ ∀ x ∈ B, x = 0) ∧
  (∀ ws us : List Half, ws.Perm us → cksum (ws.flatMap bytesOf16) = cksum (us.flatMap bytesOf16)) ∧
  (∀ B : List Byte, (B.length % 2 = 1 → cksum (B ++ [0]) = cksum B) ∧
    (B.length % 2 = 0 → cksum (B ++ [0, 0]) = cksum B)) ∧
  (∀ (B : List Byte) (p : Nat), B.length % 2 = 0 → p % 2 = 0 → p + 1 < B.length →
    byteAt B p = 0 → byteAt B (p + 1) = 0 → cksum (writeBytes B p (bytesOf16 (cksum B))) = 0)

/-- A re-stamped header is valid and differs from the header in bytes 10 and 11 only (43_checksum.md R139). -/
def Obligations.RestampedHeaderIsValid : Prop :=
  ∀ H : List Byte, 12 ≤ H.length →
    hdrValid (restamp H) = true ∧ (restamp H).length = H.length ∧
    (byteAt (restamp H) 10 ++ byteAt (restamp H) 11 : Half) = hdrCksum H ∧
    ∀ k, k ≠ 10 → k ≠ 11 → byteAt (restamp H) k = byteAt H k

/-- Changing any single byte of a valid header makes it invalid (43_checksum.md R138). -/
def Obligations.OneChangedByteInvalidatesHeader : Prop :=
  ∀ (H : List Byte) (k : Nat) (x : Byte), 12 ≤ H.length → k < H.length → hdrValid H = true →
    x ≠ byteAt H k → hdrValid (H.set k x) = false

/-- `CSUM` answers the checksum of its bytes, the count in range (43_checksum.md R140). -/
def Obligations.CsumReportsChecksum : Prop :=
  ∀ (s : State) (B : List Byte),
    (s.params.maxFrame < B.length → ∀ a, exec (.csum a B) s = .next (refusedWith 0x40 0x02 s)) ∧
    (B.length ≤ s.params.maxFrame →
      exec (.csum 0 B) s = .next (answeredWith [0x40000000, (cksum B).setWidth 32] s))

/-- `HDR_VFY` answers whether the stored checksum is the computed one, and both (43_checksum.md R141). -/
def Obligations.HdrVfyReportsBothChecksums : Prop :=
  ∀ (s : State) (H : List Byte),
    ((s.params.maxFrame < H.length ∨ H.length < 12) → ∀ a, exec (.hdrVfy a H) s = .next (refusedWith 0x41 0x02 s)) ∧
    (12 ≤ H.length → H.length ≤ s.params.maxFrame →
      let stored : Half := byteAt H 10 ++ byteAt H 11
      let computed : Half := cksum ((H.set 10 0).set 11 0)
      exec (.hdrVfy 0 H) s = .next (answeredWith
        [0x41000000, (if stored = computed then 0x80000000 else 0) ||| computed.setWidth 32, stored.setWidth 32] s))

/-! ### FRAME -/

/-- A `FRAME` that is refused, and the three drops before the dispatch, in their order
(44_router_forwarder.md R150, 60_exceptions.md R203). -/
def Obligations.FrameRefusalsAndEarlyDrops : Prop :=
  ∀ (s : State) (a : Byte) (F : Frame),
    (s.params.maxFrame < F.length → exec (.frame a F) s = .next (refusedWith 0x80 0x02 s)) ∧
    (F.length ≤ s.params.maxFrame → 16 ≤ a.toNat → exec (.frame a F) s = .next (refusedWith 0x80 0x03 s)) ∧
    (F.length ≤ s.params.maxFrame → a.toNat < 16 → s.params.nIf ≤ a.toNat →
      exec (.frame a F) s = .next (refusedWith 0x80 0x05 s)) ∧
    (F.length ≤ s.params.maxFrame → a.toNat < 16 → a.toNat < s.params.nIf →
      (s.ctrl.getLsbD 0 = false → exec (.frame a F) s = .next (droppedWith 8 s)) ∧
      (s.ctrl.getLsbD 0 = true → (s.ifAt (a.setWidth 4)).en = false →
        exec (.frame a F) s = .next (droppedWith 9 s)) ∧
      (s.ctrl.getLsbD 0 = true → (s.ifAt (a.setWidth 4)).en = true → F.length < 14 →
        exec (.frame a F) s = .next (droppedWith 6 s)))

/-- The router pipeline's drops, each under the conditions that passed before it (44_router_forwarder.md R161,
60_exceptions.md R202, R203). -/
def Obligations.RouterDropsInOrder : Prop :=
  ∀ (s : State) (a : Byte) (F : Frame), Dispatched a F s → s.ctrl.getLsbD 1 = true →
    let header := (F.drop 14).take (4 * ((byteAt F 14).toNat % 16))
    (read16 F 12 ≠ 0x0800 → exec (.frame a F) s = .next (droppedWith 0 s)) ∧
    (read16 F 12 = 0x0800 → ¬ HeaderPresent F → exec (.frame a F) s = .next (droppedWith 7 s)) ∧
    (read16 F 12 = 0x0800 → HeaderPresent F →
      (read16 F 24 ≠ hdrCksum header → exec (.frame a F) s = .next (droppedWith 1 s)) ∧
      (read16 F 24 = hdrCksum header →
        ((byteAt F 22).toNat ≤ 1 → exec (.frame a F) s = .next (droppedWith 2 s)) ∧
        (2 ≤ (byteAt F 22).toNat →
          (SelfDestined F s → exec (.frame a F) s = .next (droppedWith 3 s)) ∧
          (¬ SelfDestined F s →
            (s.lpm (read32 F 30) = none → exec (.frame a F) s = .next (droppedWith 4 s)) ∧
            (∀ r, s.lpm (read32 F 30) = some r → s.nbLookup (s.nbKey r (read32 F 30)) = none →
              exec (.frame a F) s = .next (droppedWith 5 s))))))

/-- A frame that passes every step is transmitted once, on the route's interface, with both link addresses,
the TTL and the checksum rewritten, every other byte as it was and a valid header
(44_router_forwarder.md R158, R159, R161). -/
def Obligations.RoutedFrameIsRewritten : Prop :=
  ∀ (s : State) (a : Byte) (F : Frame) (r q : Nat), Dispatched a F s → s.ctrl.getLsbD 1 = true →
    read16 F 12 = 0x0800 → HeaderPresent F →
    read16 F 24 = hdrCksum ((F.drop 14).take (4 * ((byteAt F 14).toNat % 16))) →
    2 ≤ (byteAt F 22).toNat → ¬ SelfDestined F s →
    s.lpm (read32 F 30) = some r → s.nbLookup (s.nbKey r (read32 F 30)) = some q →
    let e := (s.rtAt r).iface
    ∃ G : Frame,
      exec (.frame a F) s = .next (answeredWith [0x80000000, (0x80000000 : Word) ||| ((1 : Word) <<< e.toNat)]
        { s with txLog := PerIface.set s.txLog e (PerIface.get s.txLog e ++ [G]),
                 counters := { s.counters with routed := s.counters.routed + 1 } }) ∧
      G.length = F.length ∧
      read48 G 0 = (s.nbAt q).mac ∧ read48 G 6 = (s.ifAt e).mac ∧
      (byteAt G 22).toNat = (byteAt F 22).toNat - 1 ∧
      (∀ k, 12 ≤ k → k ≠ 22 → k ≠ 24 → k ≠ 25 → byteAt G k = byteAt F k) ∧
      hdrValid ((G.drop 14).take (4 * ((byteAt G 14).toNat % 16))) = true

/-- What follows the header has no part in the verdict: two frames of one length that agree up to the end of
the header leave states that differ in the transmit logs at most (44_router_forwarder.md R161). -/
def Obligations.RouterVerdictIgnoresPayload : Prop :=
  ∀ (s t u : State) (a : Byte) (F G : Frame), s.ctrl.getLsbD 1 = true → F.length = G.length →
    (∀ k, k < max 34 (14 + 4 * ((byteAt F 14).toNat % 16)) → byteAt F k = byteAt G k) →
    exec (.frame a F) s = .next t → exec (.frame a G) s = .next u →
    u = { t with txLog := u.txLog }

/-! ### Learning switch -/

/-- `mt_find` answers the lowest valid slot that holds the address, and the free slot taken by a learn is the
lowest one (45_learning_switch.md R178, R179). -/
def Obligations.MacTableSearches : Prop :=
  ∀ (s : State) (m : LinkAddr),
    (s.mtFind m = none ↔ ∀ j < s.params.mtDepth, ¬ ((s.mtAt j).v = true ∧ (s.mtAt j).mac = m)) ∧
    (∀ j, s.mtFind m = some j ↔ (j < s.params.mtDepth ∧ (s.mtAt j).v = true ∧ (s.mtAt j).mac = m) ∧
      ∀ k < j, ¬ ((s.mtAt k).v = true ∧ (s.mtAt k).mac = m)) ∧
    (s.mtFree = none ↔ ∀ j < s.params.mtDepth, (s.mtAt j).v = true) ∧
    ∀ j, s.mtFree = some j ↔ (j < s.params.mtDepth ∧ (s.mtAt j).v = false) ∧ ∀ k < j, (s.mtAt k).v = true

/-- The first step of a switch-mode `FRAME`: refresh, allocate or overflow, and the frame goes into the
agent's latch without a response (45_learning_switch.md R176, R179, R180). -/
def Obligations.LearnStepOfFrame : Prop :=
  ∀ (s : State) (a : Byte) (F : Frame), Dispatched a F s → s.ctrl.getLsbD 1 = false →
    let e : IfaceId := a.setWidth 4
    let m := read48 F 6
    let pend := s.pend.set s.agent (some { bytes := F, iface := e })
    (∀ j, s.mtFind m = some j → exec (.frame a F) s = .next
      { s with pend := pend, mt := s.mt.set j { v := (s.mtAt j).v, mac := (s.mtAt j).mac, iface := e, lastSeen := s.time } }) ∧
    (s.mtFind m = none →
      (∀ j, s.mtFree = some j → exec (.frame a F) s = .next
        { s with pend := pend, mt := s.mt.set j { v := true, mac := m, iface := e, lastSeen := s.time } }) ∧
      (s.mtFree = none → exec (.frame a F) s = .next
        { s with pend := pend, status := s.status ||| 0x00000001,
                 counters := { s.counters with learnOvf := s.counters.learnOvf + 1 } }))

/-- After a learn the table knows the source address on the ingress interface, unless the learn overflowed,
and what it knows of every other address is unchanged (45_learning_switch.md R179, 20_memory.md R50). -/
def Obligations.LearnedAddressIsFound : Prop :=
  ∀ (s t : State) (a : Byte) (F : Frame), s.Inv → Dispatched a F s → s.ctrl.getLsbD 1 = false →
    exec (.frame a F) s = .next t →
    (t.counters = s.counters → ∃ j, t.mtFind (read48 F 6) = some j ∧
      (t.mtAt j).iface = a.setWidth 4 ∧ (t.mtAt j).lastSeen = s.time) ∧
    (t.counters ≠ s.counters → t.mt = s.mt ∧ t.mtFind (read48 F 6) = none) ∧
    ∀ m, m ≠ read48 F 6 → t.mtFind m = s.mtFind m ∧ ∀ j, t.mtFind m = some j → t.mtAt j = s.mtAt j

/-- The second step of a switch-mode `FRAME`: the drop after a stop, the hit, and the flood to every configured
interface but the ingress one, exactly once each (45_learning_switch.md R177, R181, R182, R184). That the turn of
an agent with a full latch is its forward step is log entry 4. -/
def Obligations.ForwardStepOfFrame : Prop :=
  ∀ (s : State) (A : Issuer) (rest : List Turn) (p : Pending), s.schedule = .agent A :: rest →
    s.pend.get A = some p →
    let u := { s with schedule := rest, agent := A, pend := s.pend.set A none }
    ((s.ctrl.getLsbD 0 = false ∨ s.ctrl.getLsbD 1 = true) → step s = .next (droppedWith 8 u)) ∧
    (s.ctrl.getLsbD 0 = true → s.ctrl.getLsbD 1 = false →
      (∀ j, s.mtFind (read48 p.bytes 0) = some j →
        let e := (s.mtAt j).iface
        step s = .next (answeredWith [0x80000000, (0x81000000 : Word) ||| ((1 : Word) <<< e.toNat)]
          { u with txLog := PerIface.set s.txLog e (PerIface.get s.txLog e ++ [p.bytes]),
                   counters := { s.counters with switched := s.counters.switched + 1 } })) ∧
      (s.mtFind (read48 p.bytes 0) = none →
        ∃ (tx : PerIface (List Frame)) (mask : Half),
          step s = .next (answeredWith [0x80000000, 0x82000000 ||| mask.setWidth 32]
            { u with txLog := tx, counters := { s.counters with flooded := s.counters.flooded + 1 } }) ∧
          ∀ e : IfaceId,
            if e.toNat < s.params.nIf ∧ (s.ifAt e).en = true ∧ e ≠ p.iface then
              mask.getLsbD e.toNat = true ∧ PerIface.get tx e = PerIface.get s.txLog e ++ [p.bytes]
            else mask.getLsbD e.toNat = false ∧ PerIface.get tx e = PerIface.get s.txLog e))

/-- `MT_LKUP` answers the slot that `mt_find` finds, or zero data; a set bit of `MAC_HI[31:16]` is refused
(45_learning_switch.md R194). -/
def Obligations.MtLkupReportsMtFind : Prop :=
  ∀ (s : State) (hi lo : Word),
    (65536 ≤ hi.toNat → exec (.mtLkup 0 0 hi lo) s = .next (refusedWith 0x31 0x03 s)) ∧
    (hi.toNat < 65536 →
      (s.mtFind ((hi.setWidth 16 : Half) ++ lo) = none →
        exec (.mtLkup 0 0 hi lo) s = .next (answeredWith [0x31000000, 0, 0, 0] s)) ∧
      ∀ j, s.mtFind ((hi.setWidth 16 : Half) ++ lo) = some j →
        exec (.mtLkup 0 0 hi lo) s = .next (answeredWith
          [0x31000000,
           0x80000000 ||| ((BitVec.ofNat 8 j).setWidth 32 <<< 16) ||| ((s.mtAt j).iface.setWidth 32 <<< 4),
           ((s.mtAt j).lastSeen >>> 32).setWidth 32, (s.mtAt j).lastSeen.setWidth 32] s))

/-- `TICK`: time moves by one; when a sweep is due every entry older than the limit is emptied, no other is
touched, and the evictions and the sweep are counted (45_learning_switch.md R190, R191). -/
def Obligations.TickAndSweep : Prop :=
  ∀ (s : State) (rest : List Turn), s.schedule = .timer :: rest →
    let now := s.time + 1
    let due := s.ctrl.getLsbD 0 = true ∧ s.ctrl.getLsbD 2 = true ∧ s.sweepPeriod.toNat ≤ (now - s.sweepLast).toNat
    let stale := fun x : MtSlot => x.v && decide (s.ageLimit.toNat < (now - x.lastSeen).toNat)
    (¬ due → step s = .next { s with schedule := rest, time := now }) ∧
    (due → ∃ mt : List MtSlot,
      step s = .next { s with schedule := rest, time := now, sweepLast := now, mt := mt,
                              counters := { s.counters with
                                evict := s.counters.evict + BitVec.ofNat 32 (s.mt.countP stale),
                                sweep := s.counters.sweep + 1 } } ∧
      mt.length = s.mt.length ∧
      ∀ (j : Nat) (x : MtSlot), s.mt[j]? = some x →
        mt[j]? = some (if stale x = true then { v := false, mac := 0, iface := 0, lastSeen := 0 } else x))

/-- The life of an entry over `n` ticks with nothing else happening: it is untouched while its age stays within
`AGE_LIMIT`, and it is gone once `AGE_LIMIT` and a whole period (at least one tick) have passed since it was
last seen (45_learning_switch.md R192). -/
def Obligations.EntryLifetime : Prop :=
  ∀ (s : State) (n j : Nat) (rest : List Turn), s.schedule = List.replicate n .timer ++ rest →
    s.ctrl.getLsbD 0 = true → s.ctrl.getLsbD 2 = true → (s.mtAt j).v = true →
    (s.mtAt j).lastSeen.toNat ≤ s.time.toNat → s.sweepLast.toNat ≤ s.time.toNat → s.time.toNat + n < 2 ^ 64 →
    ∃ t, Host.Core.run Sys2Proof.core n s = .next t ∧
      (s.time.toNat + n ≤ (s.mtAt j).lastSeen.toNat + s.ageLimit.toNat → t.mtAt j = s.mtAt j) ∧
      (max s.sweepPeriod.toNat 1 ≤ n →
        (s.mtAt j).lastSeen.toNat + s.ageLimit.toNat + max s.sweepPeriod.toNat 1 ≤ s.time.toNat + n →
        t.mtAt j = { v := false, mac := 0, iface := 0, lastSeen := 0 })
end

