-- ==== Sys2Proof/Laws/State.lean ====
section
/-! SUPPORT. What each update of the state does to each field, one lemma per field per update, so that no
later proof unfolds an update. -/

namespace Sys2Proof.Machine

/-! ### `writeRt` -/

@[simp] theorem writeRt_params (j : Nat) (x : RtSlot) (s : State) : (writeRt j x s).params = s.params := rfl
@[simp] theorem writeRt_ctrl (j : Nat) (x : RtSlot) (s : State) : (writeRt j x s).ctrl = s.ctrl := rfl
@[simp] theorem writeRt_status (j : Nat) (x : RtSlot) (s : State) : (writeRt j x s).status = s.status := rfl
@[simp] theorem writeRt_ageLimit (j : Nat) (x : RtSlot) (s : State) : (writeRt j x s).ageLimit = s.ageLimit := rfl
@[simp] theorem writeRt_sweepPeriod (j : Nat) (x : RtSlot) (s : State) : (writeRt j x s).sweepPeriod = s.sweepPeriod := rfl
@[simp] theorem writeRt_time (j : Nat) (x : RtSlot) (s : State) : (writeRt j x s).time = s.time := rfl
@[simp] theorem writeRt_sweepLast (j : Nat) (x : RtSlot) (s : State) : (writeRt j x s).sweepLast = s.sweepLast := rfl
@[simp] theorem writeRt_counters (j : Nat) (x : RtSlot) (s : State) : (writeRt j x s).counters = s.counters := rfl
@[simp] theorem writeRt_rt (j : Nat) (x : RtSlot) (s : State) : (writeRt j x s).rt = s.rt.set j x := rfl
@[simp] theorem writeRt_nb (j : Nat) (x : RtSlot) (s : State) : (writeRt j x s).nb = s.nb := rfl
@[simp] theorem writeRt_ifs (j : Nat) (x : RtSlot) (s : State) : (writeRt j x s).ifs = s.ifs := rfl
@[simp] theorem writeRt_mt (j : Nat) (x : RtSlot) (s : State) : (writeRt j x s).mt = s.mt := rfl
@[simp] theorem writeRt_pend (j : Nat) (x : RtSlot) (s : State) : (writeRt j x s).pend = s.pend := rfl
@[simp] theorem writeRt_responses (j : Nat) (x : RtSlot) (s : State) : (writeRt j x s).responses = s.responses := rfl
@[simp] theorem writeRt_txLog (j : Nat) (x : RtSlot) (s : State) : (writeRt j x s).txLog = s.txLog := rfl
@[simp] theorem writeRt_queue (j : Nat) (x : RtSlot) (s : State) : (writeRt j x s).queue = s.queue := rfl
@[simp] theorem writeRt_schedule (j : Nat) (x : RtSlot) (s : State) : (writeRt j x s).schedule = s.schedule := rfl
@[simp] theorem writeRt_agent (j : Nat) (x : RtSlot) (s : State) : (writeRt j x s).agent = s.agent := rfl

/-! ### `writeNb` -/

@[simp] theorem writeNb_params (j : Nat) (x : NbSlot) (s : State) : (writeNb j x s).params = s.params := rfl
@[simp] theorem writeNb_ctrl (j : Nat) (x : NbSlot) (s : State) : (writeNb j x s).ctrl = s.ctrl := rfl
@[simp] theorem writeNb_status (j : Nat) (x : NbSlot) (s : State) : (writeNb j x s).status = s.status := rfl
@[simp] theorem writeNb_ageLimit (j : Nat) (x : NbSlot) (s : State) : (writeNb j x s).ageLimit = s.ageLimit := rfl
@[simp] theorem writeNb_sweepPeriod (j : Nat) (x : NbSlot) (s : State) : (writeNb j x s).sweepPeriod = s.sweepPeriod := rfl
@[simp] theorem writeNb_time (j : Nat) (x : NbSlot) (s : State) : (writeNb j x s).time = s.time := rfl
@[simp] theorem writeNb_sweepLast (j : Nat) (x : NbSlot) (s : State) : (writeNb j x s).sweepLast = s.sweepLast := rfl
@[simp] theorem writeNb_counters (j : Nat) (x : NbSlot) (s : State) : (writeNb j x s).counters = s.counters := rfl
@[simp] theorem writeNb_rt (j : Nat) (x : NbSlot) (s : State) : (writeNb j x s).rt = s.rt := rfl
@[simp] theorem writeNb_nb (j : Nat) (x : NbSlot) (s : State) : (writeNb j x s).nb = s.nb.set j x := rfl
@[simp] theorem writeNb_ifs (j : Nat) (x : NbSlot) (s : State) : (writeNb j x s).ifs = s.ifs := rfl
@[simp] theorem writeNb_mt (j : Nat) (x : NbSlot) (s : State) : (writeNb j x s).mt = s.mt := rfl
@[simp] theorem writeNb_pend (j : Nat) (x : NbSlot) (s : State) : (writeNb j x s).pend = s.pend := rfl
@[simp] theorem writeNb_responses (j : Nat) (x : NbSlot) (s : State) : (writeNb j x s).responses = s.responses := rfl
@[simp] theorem writeNb_txLog (j : Nat) (x : NbSlot) (s : State) : (writeNb j x s).txLog = s.txLog := rfl
@[simp] theorem writeNb_queue (j : Nat) (x : NbSlot) (s : State) : (writeNb j x s).queue = s.queue := rfl
@[simp] theorem writeNb_schedule (j : Nat) (x : NbSlot) (s : State) : (writeNb j x s).schedule = s.schedule := rfl
@[simp] theorem writeNb_agent (j : Nat) (x : NbSlot) (s : State) : (writeNb j x s).agent = s.agent := rfl

/-! ### `writeIf` -/

@[simp] theorem writeIf_params (e : IfaceId) (x : IfSlot) (s : State) : (writeIf e x s).params = s.params := rfl
@[simp] theorem writeIf_ctrl (e : IfaceId) (x : IfSlot) (s : State) : (writeIf e x s).ctrl = s.ctrl := rfl
@[simp] theorem writeIf_status (e : IfaceId) (x : IfSlot) (s : State) : (writeIf e x s).status = s.status := rfl
@[simp] theorem writeIf_ageLimit (e : IfaceId) (x : IfSlot) (s : State) : (writeIf e x s).ageLimit = s.ageLimit := rfl
@[simp] theorem writeIf_sweepPeriod (e : IfaceId) (x : IfSlot) (s : State) : (writeIf e x s).sweepPeriod = s.sweepPeriod := rfl
@[simp] theorem writeIf_time (e : IfaceId) (x : IfSlot) (s : State) : (writeIf e x s).time = s.time := rfl
@[simp] theorem writeIf_sweepLast (e : IfaceId) (x : IfSlot) (s : State) : (writeIf e x s).sweepLast = s.sweepLast := rfl
@[simp] theorem writeIf_counters (e : IfaceId) (x : IfSlot) (s : State) : (writeIf e x s).counters = s.counters := rfl
@[simp] theorem writeIf_rt (e : IfaceId) (x : IfSlot) (s : State) : (writeIf e x s).rt = s.rt := rfl
@[simp] theorem writeIf_nb (e : IfaceId) (x : IfSlot) (s : State) : (writeIf e x s).nb = s.nb := rfl
@[simp] theorem writeIf_ifs (e : IfaceId) (x : IfSlot) (s : State) : (writeIf e x s).ifs = PerIface.set s.ifs e x := rfl
@[simp] theorem writeIf_mt (e : IfaceId) (x : IfSlot) (s : State) : (writeIf e x s).mt = s.mt := rfl
@[simp] theorem writeIf_pend (e : IfaceId) (x : IfSlot) (s : State) : (writeIf e x s).pend = s.pend := rfl
@[simp] theorem writeIf_responses (e : IfaceId) (x : IfSlot) (s : State) : (writeIf e x s).responses = s.responses := rfl
@[simp] theorem writeIf_txLog (e : IfaceId) (x : IfSlot) (s : State) : (writeIf e x s).txLog = s.txLog := rfl
@[simp] theorem writeIf_queue (e : IfaceId) (x : IfSlot) (s : State) : (writeIf e x s).queue = s.queue := rfl
@[simp] theorem writeIf_schedule (e : IfaceId) (x : IfSlot) (s : State) : (writeIf e x s).schedule = s.schedule := rfl
@[simp] theorem writeIf_agent (e : IfaceId) (x : IfSlot) (s : State) : (writeIf e x s).agent = s.agent := rfl

/-! ### `writeMt` -/

@[simp] theorem writeMt_params (j : Nat) (x : MtSlot) (s : State) : (writeMt j x s).params = s.params := rfl
@[simp] theorem writeMt_ctrl (j : Nat) (x : MtSlot) (s : State) : (writeMt j x s).ctrl = s.ctrl := rfl
@[simp] theorem writeMt_status (j : Nat) (x : MtSlot) (s : State) : (writeMt j x s).status = s.status := rfl
@[simp] theorem writeMt_ageLimit (j : Nat) (x : MtSlot) (s : State) : (writeMt j x s).ageLimit = s.ageLimit := rfl
@[simp] theorem writeMt_sweepPeriod (j : Nat) (x : MtSlot) (s : State) : (writeMt j x s).sweepPeriod = s.sweepPeriod := rfl
@[simp] theorem writeMt_time (j : Nat) (x : MtSlot) (s : State) : (writeMt j x s).time = s.time := rfl
@[simp] theorem writeMt_sweepLast (j : Nat) (x : MtSlot) (s : State) : (writeMt j x s).sweepLast = s.sweepLast := rfl
@[simp] theorem writeMt_counters (j : Nat) (x : MtSlot) (s : State) : (writeMt j x s).counters = s.counters := rfl
@[simp] theorem writeMt_rt (j : Nat) (x : MtSlot) (s : State) : (writeMt j x s).rt = s.rt := rfl
@[simp] theorem writeMt_nb (j : Nat) (x : MtSlot) (s : State) : (writeMt j x s).nb = s.nb := rfl
@[simp] theorem writeMt_ifs (j : Nat) (x : MtSlot) (s : State) : (writeMt j x s).ifs = s.ifs := rfl
@[simp] theorem writeMt_mt (j : Nat) (x : MtSlot) (s : State) : (writeMt j x s).mt = s.mt.set j x := rfl
@[simp] theorem writeMt_pend (j : Nat) (x : MtSlot) (s : State) : (writeMt j x s).pend = s.pend := rfl
@[simp] theorem writeMt_responses (j : Nat) (x : MtSlot) (s : State) : (writeMt j x s).responses = s.responses := rfl
@[simp] theorem writeMt_txLog (j : Nat) (x : MtSlot) (s : State) : (writeMt j x s).txLog = s.txLog := rfl
@[simp] theorem writeMt_queue (j : Nat) (x : MtSlot) (s : State) : (writeMt j x s).queue = s.queue := rfl
@[simp] theorem writeMt_schedule (j : Nat) (x : MtSlot) (s : State) : (writeMt j x s).schedule = s.schedule := rfl
@[simp] theorem writeMt_agent (j : Nat) (x : MtSlot) (s : State) : (writeMt j x s).agent = s.agent := rfl

/-! ### `clearRt` -/

@[simp] theorem clearRt_params (s : State) : (clearRt s).params = s.params := rfl
@[simp] theorem clearRt_ctrl (s : State) : (clearRt s).ctrl = s.ctrl := rfl
@[simp] theorem clearRt_status (s : State) : (clearRt s).status = s.status := rfl
@[simp] theorem clearRt_ageLimit (s : State) : (clearRt s).ageLimit = s.ageLimit := rfl
@[simp] theorem clearRt_sweepPeriod (s : State) : (clearRt s).sweepPeriod = s.sweepPeriod := rfl
@[simp] theorem clearRt_time (s : State) : (clearRt s).time = s.time := rfl
@[simp] theorem clearRt_sweepLast (s : State) : (clearRt s).sweepLast = s.sweepLast := rfl
@[simp] theorem clearRt_counters (s : State) : (clearRt s).counters = s.counters := rfl
@[simp] theorem clearRt_rt (s : State) : (clearRt s).rt = List.replicate s.params.rtDepth RtSlot.empty := rfl
@[simp] theorem clearRt_nb (s : State) : (clearRt s).nb = s.nb := rfl
@[simp] theorem clearRt_ifs (s : State) : (clearRt s).ifs = s.ifs := rfl
@[simp] theorem clearRt_mt (s : State) : (clearRt s).mt = s.mt := rfl
@[simp] theorem clearRt_pend (s : State) : (clearRt s).pend = s.pend := rfl
@[simp] theorem clearRt_responses (s : State) : (clearRt s).responses = s.responses := rfl
@[simp] theorem clearRt_txLog (s : State) : (clearRt s).txLog = s.txLog := rfl
@[simp] theorem clearRt_queue (s : State) : (clearRt s).queue = s.queue := rfl
@[simp] theorem clearRt_schedule (s : State) : (clearRt s).schedule = s.schedule := rfl
@[simp] theorem clearRt_agent (s : State) : (clearRt s).agent = s.agent := rfl

/-! ### `clearNb` -/

@[simp] theorem clearNb_params (s : State) : (clearNb s).params = s.params := rfl
@[simp] theorem clearNb_ctrl (s : State) : (clearNb s).ctrl = s.ctrl := rfl
@[simp] theorem clearNb_status (s : State) : (clearNb s).status = s.status := rfl
@[simp] theorem clearNb_ageLimit (s : State) : (clearNb s).ageLimit = s.ageLimit := rfl
@[simp] theorem clearNb_sweepPeriod (s : State) : (clearNb s).sweepPeriod = s.sweepPeriod := rfl
@[simp] theorem clearNb_time (s : State) : (clearNb s).time = s.time := rfl
@[simp] theorem clearNb_sweepLast (s : State) : (clearNb s).sweepLast = s.sweepLast := rfl
@[simp] theorem clearNb_counters (s : State) : (clearNb s).counters = s.counters := rfl
@[simp] theorem clearNb_rt (s : State) : (clearNb s).rt = s.rt := rfl
@[simp] theorem clearNb_nb (s : State) : (clearNb s).nb = List.replicate s.params.nbDepth NbSlot.empty := rfl
@[simp] theorem clearNb_ifs (s : State) : (clearNb s).ifs = s.ifs := rfl
@[simp] theorem clearNb_mt (s : State) : (clearNb s).mt = s.mt := rfl
@[simp] theorem clearNb_pend (s : State) : (clearNb s).pend = s.pend := rfl
@[simp] theorem clearNb_responses (s : State) : (clearNb s).responses = s.responses := rfl
@[simp] theorem clearNb_txLog (s : State) : (clearNb s).txLog = s.txLog := rfl
@[simp] theorem clearNb_queue (s : State) : (clearNb s).queue = s.queue := rfl
@[simp] theorem clearNb_schedule (s : State) : (clearNb s).schedule = s.schedule := rfl
@[simp] theorem clearNb_agent (s : State) : (clearNb s).agent = s.agent := rfl

/-! ### `clearMt` -/

@[simp] theorem clearMt_params (s : State) : (clearMt s).params = s.params := rfl
@[simp] theorem clearMt_ctrl (s : State) : (clearMt s).ctrl = s.ctrl := rfl
@[simp] theorem clearMt_status (s : State) : (clearMt s).status = s.status := rfl
@[simp] theorem clearMt_ageLimit (s : State) : (clearMt s).ageLimit = s.ageLimit := rfl
@[simp] theorem clearMt_sweepPeriod (s : State) : (clearMt s).sweepPeriod = s.sweepPeriod := rfl
@[simp] theorem clearMt_time (s : State) : (clearMt s).time = s.time := rfl
@[simp] theorem clearMt_sweepLast (s : State) : (clearMt s).sweepLast = s.sweepLast := rfl
@[simp] theorem clearMt_counters (s : State) : (clearMt s).counters = s.counters := rfl
@[simp] theorem clearMt_rt (s : State) : (clearMt s).rt = s.rt := rfl
@[simp] theorem clearMt_nb (s : State) : (clearMt s).nb = s.nb := rfl
@[simp] theorem clearMt_ifs (s : State) : (clearMt s).ifs = s.ifs := rfl
@[simp] theorem clearMt_mt (s : State) : (clearMt s).mt = List.replicate s.params.mtDepth MtSlot.empty := rfl
@[simp] theorem clearMt_pend (s : State) : (clearMt s).pend = s.pend := rfl
@[simp] theorem clearMt_responses (s : State) : (clearMt s).responses = s.responses := rfl
@[simp] theorem clearMt_txLog (s : State) : (clearMt s).txLog = s.txLog := rfl
@[simp] theorem clearMt_queue (s : State) : (clearMt s).queue = s.queue := rfl
@[simp] theorem clearMt_schedule (s : State) : (clearMt s).schedule = s.schedule := rfl
@[simp] theorem clearMt_agent (s : State) : (clearMt s).agent = s.agent := rfl

/-! ### `startRunning` -/

@[simp] theorem startRunning_params (s : State) : (startRunning s).params = s.params := rfl
@[simp] theorem startRunning_ctrl (s : State) : (startRunning s).ctrl = s.ctrl := rfl
@[simp] theorem startRunning_status (s : State) : (startRunning s).status = s.status := rfl
@[simp] theorem startRunning_ageLimit (s : State) : (startRunning s).ageLimit = s.ageLimit := rfl
@[simp] theorem startRunning_sweepPeriod (s : State) : (startRunning s).sweepPeriod = s.sweepPeriod := rfl
@[simp] theorem startRunning_time (s : State) : (startRunning s).time = s.time := rfl
@[simp] theorem startRunning_sweepLast (s : State) : (startRunning s).sweepLast = s.time := rfl
@[simp] theorem startRunning_counters (s : State) : (startRunning s).counters = s.counters := rfl
@[simp] theorem startRunning_rt (s : State) : (startRunning s).rt = s.rt := rfl
@[simp] theorem startRunning_nb (s : State) : (startRunning s).nb = s.nb := rfl
@[simp] theorem startRunning_ifs (s : State) : (startRunning s).ifs = s.ifs := rfl
@[simp] theorem startRunning_mt (s : State) : (startRunning s).mt = List.replicate s.params.mtDepth MtSlot.empty := rfl
@[simp] theorem startRunning_pend (s : State) : (startRunning s).pend = s.pend := rfl
@[simp] theorem startRunning_responses (s : State) : (startRunning s).responses = s.responses := rfl
@[simp] theorem startRunning_txLog (s : State) : (startRunning s).txLog = s.txLog := rfl
@[simp] theorem startRunning_queue (s : State) : (startRunning s).queue = s.queue := rfl
@[simp] theorem startRunning_schedule (s : State) : (startRunning s).schedule = s.schedule := rfl
@[simp] theorem startRunning_agent (s : State) : (startRunning s).agent = s.agent := rfl

/-! ### `setCtrl` -/

@[simp] theorem setCtrl_params (w : Word) (s : State) : (setCtrl w s).params = s.params := rfl
@[simp] theorem setCtrl_ctrl (w : Word) (s : State) : (setCtrl w s).ctrl = w := rfl
@[simp] theorem setCtrl_status (w : Word) (s : State) : (setCtrl w s).status = s.status := rfl
@[simp] theorem setCtrl_ageLimit (w : Word) (s : State) : (setCtrl w s).ageLimit = s.ageLimit := rfl
@[simp] theorem setCtrl_sweepPeriod (w : Word) (s : State) : (setCtrl w s).sweepPeriod = s.sweepPeriod := rfl
@[simp] theorem setCtrl_time (w : Word) (s : State) : (setCtrl w s).time = s.time := rfl
@[simp] theorem setCtrl_sweepLast (w : Word) (s : State) : (setCtrl w s).sweepLast = s.sweepLast := rfl
@[simp] theorem setCtrl_counters (w : Word) (s : State) : (setCtrl w s).counters = s.counters := rfl
@[simp] theorem setCtrl_rt (w : Word) (s : State) : (setCtrl w s).rt = s.rt := rfl
@[simp] theorem setCtrl_nb (w : Word) (s : State) : (setCtrl w s).nb = s.nb := rfl
@[simp] theorem setCtrl_ifs (w : Word) (s : State) : (setCtrl w s).ifs = s.ifs := rfl
@[simp] theorem setCtrl_mt (w : Word) (s : State) : (setCtrl w s).mt = s.mt := rfl
@[simp] theorem setCtrl_pend (w : Word) (s : State) : (setCtrl w s).pend = s.pend := rfl
@[simp] theorem setCtrl_responses (w : Word) (s : State) : (setCtrl w s).responses = s.responses := rfl
@[simp] theorem setCtrl_txLog (w : Word) (s : State) : (setCtrl w s).txLog = s.txLog := rfl
@[simp] theorem setCtrl_queue (w : Word) (s : State) : (setCtrl w s).queue = s.queue := rfl
@[simp] theorem setCtrl_schedule (w : Word) (s : State) : (setCtrl w s).schedule = s.schedule := rfl
@[simp] theorem setCtrl_agent (w : Word) (s : State) : (setCtrl w s).agent = s.agent := rfl

/-! ### `clearStatus` -/

@[simp] theorem clearStatus_params (w : Word) (s : State) : (clearStatus w s).params = s.params := rfl
@[simp] theorem clearStatus_ctrl (w : Word) (s : State) : (clearStatus w s).ctrl = s.ctrl := rfl
@[simp] theorem clearStatus_status (w : Word) (s : State) : (clearStatus w s).status = s.status &&& ~~~ w := rfl
@[simp] theorem clearStatus_ageLimit (w : Word) (s : State) : (clearStatus w s).ageLimit = s.ageLimit := rfl
@[simp] theorem clearStatus_sweepPeriod (w : Word) (s : State) : (clearStatus w s).sweepPeriod = s.sweepPeriod := rfl
@[simp] theorem clearStatus_time (w : Word) (s : State) : (clearStatus w s).time = s.time := rfl
@[simp] theorem clearStatus_sweepLast (w : Word) (s : State) : (clearStatus w s).sweepLast = s.sweepLast := rfl
@[simp] theorem clearStatus_counters (w : Word) (s : State) : (clearStatus w s).counters = s.counters := rfl
@[simp] theorem clearStatus_rt (w : Word) (s : State) : (clearStatus w s).rt = s.rt := rfl
@[simp] theorem clearStatus_nb (w : Word) (s : State) : (clearStatus w s).nb = s.nb := rfl
@[simp] theorem clearStatus_ifs (w : Word) (s : State) : (clearStatus w s).ifs = s.ifs := rfl
@[simp] theorem clearStatus_mt (w : Word) (s : State) : (clearStatus w s).mt = s.mt := rfl
@[simp] theorem clearStatus_pend (w : Word) (s : State) : (clearStatus w s).pend = s.pend := rfl
@[simp] theorem clearStatus_responses (w : Word) (s : State) : (clearStatus w s).responses = s.responses := rfl
@[simp] theorem clearStatus_txLog (w : Word) (s : State) : (clearStatus w s).txLog = s.txLog := rfl
@[simp] theorem clearStatus_queue (w : Word) (s : State) : (clearStatus w s).queue = s.queue := rfl
@[simp] theorem clearStatus_schedule (w : Word) (s : State) : (clearStatus w s).schedule = s.schedule := rfl
@[simp] theorem clearStatus_agent (w : Word) (s : State) : (clearStatus w s).agent = s.agent := rfl

/-! ### `setAgeLimit` -/

@[simp] theorem setAgeLimit_params (w : Word) (s : State) : (setAgeLimit w s).params = s.params := rfl
@[simp] theorem setAgeLimit_ctrl (w : Word) (s : State) : (setAgeLimit w s).ctrl = s.ctrl := rfl
@[simp] theorem setAgeLimit_status (w : Word) (s : State) : (setAgeLimit w s).status = s.status := rfl
@[simp] theorem setAgeLimit_ageLimit (w : Word) (s : State) : (setAgeLimit w s).ageLimit = w := rfl
@[simp] theorem setAgeLimit_sweepPeriod (w : Word) (s : State) : (setAgeLimit w s).sweepPeriod = s.sweepPeriod := rfl
@[simp] theorem setAgeLimit_time (w : Word) (s : State) : (setAgeLimit w s).time = s.time := rfl
@[simp] theorem setAgeLimit_sweepLast (w : Word) (s : State) : (setAgeLimit w s).sweepLast = s.sweepLast := rfl
@[simp] theorem setAgeLimit_counters (w : Word) (s : State) : (setAgeLimit w s).counters = s.counters := rfl
@[simp] theorem setAgeLimit_rt (w : Word) (s : State) : (setAgeLimit w s).rt = s.rt := rfl
@[simp] theorem setAgeLimit_nb (w : Word) (s : State) : (setAgeLimit w s).nb = s.nb := rfl
@[simp] theorem setAgeLimit_ifs (w : Word) (s : State) : (setAgeLimit w s).ifs = s.ifs := rfl
@[simp] theorem setAgeLimit_mt (w : Word) (s : State) : (setAgeLimit w s).mt = s.mt := rfl
@[simp] theorem setAgeLimit_pend (w : Word) (s : State) : (setAgeLimit w s).pend = s.pend := rfl
@[simp] theorem setAgeLimit_responses (w : Word) (s : State) : (setAgeLimit w s).responses = s.responses := rfl
@[simp] theorem setAgeLimit_txLog (w : Word) (s : State) : (setAgeLimit w s).txLog = s.txLog := rfl
@[simp] theorem setAgeLimit_queue (w : Word) (s : State) : (setAgeLimit w s).queue = s.queue := rfl
@[simp] theorem setAgeLimit_schedule (w : Word) (s : State) : (setAgeLimit w s).schedule = s.schedule := rfl
@[simp] theorem setAgeLimit_agent (w : Word) (s : State) : (setAgeLimit w s).agent = s.agent := rfl

/-! ### `setSweepPeriod` -/

@[simp] theorem setSweepPeriod_params (w : Word) (s : State) : (setSweepPeriod w s).params = s.params := rfl
@[simp] theorem setSweepPeriod_ctrl (w : Word) (s : State) : (setSweepPeriod w s).ctrl = s.ctrl := rfl
@[simp] theorem setSweepPeriod_status (w : Word) (s : State) : (setSweepPeriod w s).status = s.status := rfl
@[simp] theorem setSweepPeriod_ageLimit (w : Word) (s : State) : (setSweepPeriod w s).ageLimit = s.ageLimit := rfl
@[simp] theorem setSweepPeriod_sweepPeriod (w : Word) (s : State) : (setSweepPeriod w s).sweepPeriod = w := rfl
@[simp] theorem setSweepPeriod_time (w : Word) (s : State) : (setSweepPeriod w s).time = s.time := rfl
@[simp] theorem setSweepPeriod_sweepLast (w : Word) (s : State) : (setSweepPeriod w s).sweepLast = s.sweepLast := rfl
@[simp] theorem setSweepPeriod_counters (w : Word) (s : State) : (setSweepPeriod w s).counters = s.counters := rfl
@[simp] theorem setSweepPeriod_rt (w : Word) (s : State) : (setSweepPeriod w s).rt = s.rt := rfl
@[simp] theorem setSweepPeriod_nb (w : Word) (s : State) : (setSweepPeriod w s).nb = s.nb := rfl
@[simp] theorem setSweepPeriod_ifs (w : Word) (s : State) : (setSweepPeriod w s).ifs = s.ifs := rfl
@[simp] theorem setSweepPeriod_mt (w : Word) (s : State) : (setSweepPeriod w s).mt = s.mt := rfl
@[simp] theorem setSweepPeriod_pend (w : Word) (s : State) : (setSweepPeriod w s).pend = s.pend := rfl
@[simp] theorem setSweepPeriod_responses (w : Word) (s : State) : (setSweepPeriod w s).responses = s.responses := rfl
@[simp] theorem setSweepPeriod_txLog (w : Word) (s : State) : (setSweepPeriod w s).txLog = s.txLog := rfl
@[simp] theorem setSweepPeriod_queue (w : Word) (s : State) : (setSweepPeriod w s).queue = s.queue := rfl
@[simp] theorem setSweepPeriod_schedule (w : Word) (s : State) : (setSweepPeriod w s).schedule = s.schedule := rfl
@[simp] theorem setSweepPeriod_agent (w : Word) (s : State) : (setSweepPeriod w s).agent = s.agent := rfl

/-! ### `advanceTime` -/

@[simp] theorem advanceTime_params (s : State) : (advanceTime s).params = s.params := rfl
@[simp] theorem advanceTime_ctrl (s : State) : (advanceTime s).ctrl = s.ctrl := rfl
@[simp] theorem advanceTime_status (s : State) : (advanceTime s).status = s.status := rfl
@[simp] theorem advanceTime_ageLimit (s : State) : (advanceTime s).ageLimit = s.ageLimit := rfl
@[simp] theorem advanceTime_sweepPeriod (s : State) : (advanceTime s).sweepPeriod = s.sweepPeriod := rfl
@[simp] theorem advanceTime_time (s : State) : (advanceTime s).time = s.time + 1 := rfl
@[simp] theorem advanceTime_sweepLast (s : State) : (advanceTime s).sweepLast = s.sweepLast := rfl
@[simp] theorem advanceTime_counters (s : State) : (advanceTime s).counters = s.counters := rfl
@[simp] theorem advanceTime_rt (s : State) : (advanceTime s).rt = s.rt := rfl
@[simp] theorem advanceTime_nb (s : State) : (advanceTime s).nb = s.nb := rfl
@[simp] theorem advanceTime_ifs (s : State) : (advanceTime s).ifs = s.ifs := rfl
@[simp] theorem advanceTime_mt (s : State) : (advanceTime s).mt = s.mt := rfl
@[simp] theorem advanceTime_pend (s : State) : (advanceTime s).pend = s.pend := rfl
@[simp] theorem advanceTime_responses (s : State) : (advanceTime s).responses = s.responses := rfl
@[simp] theorem advanceTime_txLog (s : State) : (advanceTime s).txLog = s.txLog := rfl
@[simp] theorem advanceTime_queue (s : State) : (advanceTime s).queue = s.queue := rfl
@[simp] theorem advanceTime_schedule (s : State) : (advanceTime s).schedule = s.schedule := rfl
@[simp] theorem advanceTime_agent (s : State) : (advanceTime s).agent = s.agent := rfl

/-! ### `markSweep` -/

@[simp] theorem markSweep_params (s : State) : (markSweep s).params = s.params := rfl
@[simp] theorem markSweep_ctrl (s : State) : (markSweep s).ctrl = s.ctrl := rfl
@[simp] theorem markSweep_status (s : State) : (markSweep s).status = s.status := rfl
@[simp] theorem markSweep_ageLimit (s : State) : (markSweep s).ageLimit = s.ageLimit := rfl
@[simp] theorem markSweep_sweepPeriod (s : State) : (markSweep s).sweepPeriod = s.sweepPeriod := rfl
@[simp] theorem markSweep_time (s : State) : (markSweep s).time = s.time := rfl
@[simp] theorem markSweep_sweepLast (s : State) : (markSweep s).sweepLast = s.time := rfl
@[simp] theorem markSweep_counters (s : State) : (markSweep s).counters = s.counters := rfl
@[simp] theorem markSweep_rt (s : State) : (markSweep s).rt = s.rt := rfl
@[simp] theorem markSweep_nb (s : State) : (markSweep s).nb = s.nb := rfl
@[simp] theorem markSweep_ifs (s : State) : (markSweep s).ifs = s.ifs := rfl
@[simp] theorem markSweep_mt (s : State) : (markSweep s).mt = s.mt := rfl
@[simp] theorem markSweep_pend (s : State) : (markSweep s).pend = s.pend := rfl
@[simp] theorem markSweep_responses (s : State) : (markSweep s).responses = s.responses := rfl
@[simp] theorem markSweep_txLog (s : State) : (markSweep s).txLog = s.txLog := rfl
@[simp] theorem markSweep_queue (s : State) : (markSweep s).queue = s.queue := rfl
@[simp] theorem markSweep_schedule (s : State) : (markSweep s).schedule = s.schedule := rfl
@[simp] theorem markSweep_agent (s : State) : (markSweep s).agent = s.agent := rfl

/-! ### `countRouted` -/

@[simp] theorem countRouted_params (s : State) : (countRouted s).params = s.params := rfl
@[simp] theorem countRouted_ctrl (s : State) : (countRouted s).ctrl = s.ctrl := rfl
@[simp] theorem countRouted_status (s : State) : (countRouted s).status = s.status := rfl
@[simp] theorem countRouted_ageLimit (s : State) : (countRouted s).ageLimit = s.ageLimit := rfl
@[simp] theorem countRouted_sweepPeriod (s : State) : (countRouted s).sweepPeriod = s.sweepPeriod := rfl
@[simp] theorem countRouted_time (s : State) : (countRouted s).time = s.time := rfl
@[simp] theorem countRouted_sweepLast (s : State) : (countRouted s).sweepLast = s.sweepLast := rfl
@[simp] theorem countRouted_counters (s : State) : (countRouted s).counters = { s.counters with routed := s.counters.routed + 1 } := rfl
@[simp] theorem countRouted_rt (s : State) : (countRouted s).rt = s.rt := rfl
@[simp] theorem countRouted_nb (s : State) : (countRouted s).nb = s.nb := rfl
@[simp] theorem countRouted_ifs (s : State) : (countRouted s).ifs = s.ifs := rfl
@[simp] theorem countRouted_mt (s : State) : (countRouted s).mt = s.mt := rfl
@[simp] theorem countRouted_pend (s : State) : (countRouted s).pend = s.pend := rfl
@[simp] theorem countRouted_responses (s : State) : (countRouted s).responses = s.responses := rfl
@[simp] theorem countRouted_txLog (s : State) : (countRouted s).txLog = s.txLog := rfl
@[simp] theorem countRouted_queue (s : State) : (countRouted s).queue = s.queue := rfl
@[simp] theorem countRouted_schedule (s : State) : (countRouted s).schedule = s.schedule := rfl
@[simp] theorem countRouted_agent (s : State) : (countRouted s).agent = s.agent := rfl

/-! ### `countSwitched` -/

@[simp] theorem countSwitched_params (s : State) : (countSwitched s).params = s.params := rfl
@[simp] theorem countSwitched_ctrl (s : State) : (countSwitched s).ctrl = s.ctrl := rfl
@[simp] theorem countSwitched_status (s : State) : (countSwitched s).status = s.status := rfl
@[simp] theorem countSwitched_ageLimit (s : State) : (countSwitched s).ageLimit = s.ageLimit := rfl
@[simp] theorem countSwitched_sweepPeriod (s : State) : (countSwitched s).sweepPeriod = s.sweepPeriod := rfl
@[simp] theorem countSwitched_time (s : State) : (countSwitched s).time = s.time := rfl
@[simp] theorem countSwitched_sweepLast (s : State) : (countSwitched s).sweepLast = s.sweepLast := rfl
@[simp] theorem countSwitched_counters (s : State) : (countSwitched s).counters = { s.counters with switched := s.counters.switched + 1 } := rfl
@[simp] theorem countSwitched_rt (s : State) : (countSwitched s).rt = s.rt := rfl
@[simp] theorem countSwitched_nb (s : State) : (countSwitched s).nb = s.nb := rfl
@[simp] theorem countSwitched_ifs (s : State) : (countSwitched s).ifs = s.ifs := rfl
@[simp] theorem countSwitched_mt (s : State) : (countSwitched s).mt = s.mt := rfl
@[simp] theorem countSwitched_pend (s : State) : (countSwitched s).pend = s.pend := rfl
@[simp] theorem countSwitched_responses (s : State) : (countSwitched s).responses = s.responses := rfl
@[simp] theorem countSwitched_txLog (s : State) : (countSwitched s).txLog = s.txLog := rfl
@[simp] theorem countSwitched_queue (s : State) : (countSwitched s).queue = s.queue := rfl
@[simp] theorem countSwitched_schedule (s : State) : (countSwitched s).schedule = s.schedule := rfl
@[simp] theorem countSwitched_agent (s : State) : (countSwitched s).agent = s.agent := rfl

/-! ### `countFlooded` -/

@[simp] theorem countFlooded_params (s : State) : (countFlooded s).params = s.params := rfl
@[simp] theorem countFlooded_ctrl (s : State) : (countFlooded s).ctrl = s.ctrl := rfl
@[simp] theorem countFlooded_status (s : State) : (countFlooded s).status = s.status := rfl
@[simp] theorem countFlooded_ageLimit (s : State) : (countFlooded s).ageLimit = s.ageLimit := rfl
@[simp] theorem countFlooded_sweepPeriod (s : State) : (countFlooded s).sweepPeriod = s.sweepPeriod := rfl
@[simp] theorem countFlooded_time (s : State) : (countFlooded s).time = s.time := rfl
@[simp] theorem countFlooded_sweepLast (s : State) : (countFlooded s).sweepLast = s.sweepLast := rfl
@[simp] theorem countFlooded_counters (s : State) : (countFlooded s).counters = { s.counters with flooded := s.counters.flooded + 1 } := rfl
@[simp] theorem countFlooded_rt (s : State) : (countFlooded s).rt = s.rt := rfl
@[simp] theorem countFlooded_nb (s : State) : (countFlooded s).nb = s.nb := rfl
@[simp] theorem countFlooded_ifs (s : State) : (countFlooded s).ifs = s.ifs := rfl
@[simp] theorem countFlooded_mt (s : State) : (countFlooded s).mt = s.mt := rfl
@[simp] theorem countFlooded_pend (s : State) : (countFlooded s).pend = s.pend := rfl
@[simp] theorem countFlooded_responses (s : State) : (countFlooded s).responses = s.responses := rfl
@[simp] theorem countFlooded_txLog (s : State) : (countFlooded s).txLog = s.txLog := rfl
@[simp] theorem countFlooded_queue (s : State) : (countFlooded s).queue = s.queue := rfl
@[simp] theorem countFlooded_schedule (s : State) : (countFlooded s).schedule = s.schedule := rfl
@[simp] theorem countFlooded_agent (s : State) : (countFlooded s).agent = s.agent := rfl

/-! ### `countLearnOvf` -/

@[simp] theorem countLearnOvf_params (s : State) : (countLearnOvf s).params = s.params := rfl
@[simp] theorem countLearnOvf_ctrl (s : State) : (countLearnOvf s).ctrl = s.ctrl := rfl
@[simp] theorem countLearnOvf_status (s : State) : (countLearnOvf s).status = s.status := rfl
@[simp] theorem countLearnOvf_ageLimit (s : State) : (countLearnOvf s).ageLimit = s.ageLimit := rfl
@[simp] theorem countLearnOvf_sweepPeriod (s : State) : (countLearnOvf s).sweepPeriod = s.sweepPeriod := rfl
@[simp] theorem countLearnOvf_time (s : State) : (countLearnOvf s).time = s.time := rfl
@[simp] theorem countLearnOvf_sweepLast (s : State) : (countLearnOvf s).sweepLast = s.sweepLast := rfl
@[simp] theorem countLearnOvf_counters (s : State) : (countLearnOvf s).counters = { s.counters with learnOvf := s.counters.learnOvf + 1 } := rfl
@[simp] theorem countLearnOvf_rt (s : State) : (countLearnOvf s).rt = s.rt := rfl
@[simp] theorem countLearnOvf_nb (s : State) : (countLearnOvf s).nb = s.nb := rfl
@[simp] theorem countLearnOvf_ifs (s : State) : (countLearnOvf s).ifs = s.ifs := rfl
@[simp] theorem countLearnOvf_mt (s : State) : (countLearnOvf s).mt = s.mt := rfl
@[simp] theorem countLearnOvf_pend (s : State) : (countLearnOvf s).pend = s.pend := rfl
@[simp] theorem countLearnOvf_responses (s : State) : (countLearnOvf s).responses = s.responses := rfl
@[simp] theorem countLearnOvf_txLog (s : State) : (countLearnOvf s).txLog = s.txLog := rfl
@[simp] theorem countLearnOvf_queue (s : State) : (countLearnOvf s).queue = s.queue := rfl
@[simp] theorem countLearnOvf_schedule (s : State) : (countLearnOvf s).schedule = s.schedule := rfl
@[simp] theorem countLearnOvf_agent (s : State) : (countLearnOvf s).agent = s.agent := rfl

/-! ### `countEvicted` -/

@[simp] theorem countEvicted_params (n : Nat) (s : State) : (countEvicted n s).params = s.params := rfl
@[simp] theorem countEvicted_ctrl (n : Nat) (s : State) : (countEvicted n s).ctrl = s.ctrl := rfl
@[simp] theorem countEvicted_status (n : Nat) (s : State) : (countEvicted n s).status = s.status := rfl
@[simp] theorem countEvicted_ageLimit (n : Nat) (s : State) : (countEvicted n s).ageLimit = s.ageLimit := rfl
@[simp] theorem countEvicted_sweepPeriod (n : Nat) (s : State) : (countEvicted n s).sweepPeriod = s.sweepPeriod := rfl
@[simp] theorem countEvicted_time (n : Nat) (s : State) : (countEvicted n s).time = s.time := rfl
@[simp] theorem countEvicted_sweepLast (n : Nat) (s : State) : (countEvicted n s).sweepLast = s.sweepLast := rfl
@[simp] theorem countEvicted_counters (n : Nat) (s : State) : (countEvicted n s).counters = { s.counters with evict := s.counters.evict + BitVec.ofNat 32 n } := rfl
@[simp] theorem countEvicted_rt (n : Nat) (s : State) : (countEvicted n s).rt = s.rt := rfl
@[simp] theorem countEvicted_nb (n : Nat) (s : State) : (countEvicted n s).nb = s.nb := rfl
@[simp] theorem countEvicted_ifs (n : Nat) (s : State) : (countEvicted n s).ifs = s.ifs := rfl
@[simp] theorem countEvicted_mt (n : Nat) (s : State) : (countEvicted n s).mt = s.mt := rfl
@[simp] theorem countEvicted_pend (n : Nat) (s : State) : (countEvicted n s).pend = s.pend := rfl
@[simp] theorem countEvicted_responses (n : Nat) (s : State) : (countEvicted n s).responses = s.responses := rfl
@[simp] theorem countEvicted_txLog (n : Nat) (s : State) : (countEvicted n s).txLog = s.txLog := rfl
@[simp] theorem countEvicted_queue (n : Nat) (s : State) : (countEvicted n s).queue = s.queue := rfl
@[simp] theorem countEvicted_schedule (n : Nat) (s : State) : (countEvicted n s).schedule = s.schedule := rfl
@[simp] theorem countEvicted_agent (n : Nat) (s : State) : (countEvicted n s).agent = s.agent := rfl

/-! ### `countSweep` -/

@[simp] theorem countSweep_params (s : State) : (countSweep s).params = s.params := rfl
@[simp] theorem countSweep_ctrl (s : State) : (countSweep s).ctrl = s.ctrl := rfl
@[simp] theorem countSweep_status (s : State) : (countSweep s).status = s.status := rfl
@[simp] theorem countSweep_ageLimit (s : State) : (countSweep s).ageLimit = s.ageLimit := rfl
@[simp] theorem countSweep_sweepPeriod (s : State) : (countSweep s).sweepPeriod = s.sweepPeriod := rfl
@[simp] theorem countSweep_time (s : State) : (countSweep s).time = s.time := rfl
@[simp] theorem countSweep_sweepLast (s : State) : (countSweep s).sweepLast = s.sweepLast := rfl
@[simp] theorem countSweep_counters (s : State) : (countSweep s).counters = { s.counters with sweep := s.counters.sweep + 1 } := rfl
@[simp] theorem countSweep_rt (s : State) : (countSweep s).rt = s.rt := rfl
@[simp] theorem countSweep_nb (s : State) : (countSweep s).nb = s.nb := rfl
@[simp] theorem countSweep_ifs (s : State) : (countSweep s).ifs = s.ifs := rfl
@[simp] theorem countSweep_mt (s : State) : (countSweep s).mt = s.mt := rfl
@[simp] theorem countSweep_pend (s : State) : (countSweep s).pend = s.pend := rfl
@[simp] theorem countSweep_responses (s : State) : (countSweep s).responses = s.responses := rfl
@[simp] theorem countSweep_txLog (s : State) : (countSweep s).txLog = s.txLog := rfl
@[simp] theorem countSweep_queue (s : State) : (countSweep s).queue = s.queue := rfl
@[simp] theorem countSweep_schedule (s : State) : (countSweep s).schedule = s.schedule := rfl
@[simp] theorem countSweep_agent (s : State) : (countSweep s).agent = s.agent := rfl

/-! ### `countDrop` -/

@[simp] theorem countDrop_params (c : DropCause) (s : State) : (countDrop c s).params = s.params := rfl
@[simp] theorem countDrop_ctrl (c : DropCause) (s : State) : (countDrop c s).ctrl = s.ctrl := rfl
@[simp] theorem countDrop_status (c : DropCause) (s : State) : (countDrop c s).status = s.status := rfl
@[simp] theorem countDrop_ageLimit (c : DropCause) (s : State) : (countDrop c s).ageLimit = s.ageLimit := rfl
@[simp] theorem countDrop_sweepPeriod (c : DropCause) (s : State) : (countDrop c s).sweepPeriod = s.sweepPeriod := rfl
@[simp] theorem countDrop_time (c : DropCause) (s : State) : (countDrop c s).time = s.time := rfl
@[simp] theorem countDrop_sweepLast (c : DropCause) (s : State) : (countDrop c s).sweepLast = s.sweepLast := rfl
@[simp] theorem countDrop_rt (c : DropCause) (s : State) : (countDrop c s).rt = s.rt := rfl
@[simp] theorem countDrop_nb (c : DropCause) (s : State) : (countDrop c s).nb = s.nb := rfl
@[simp] theorem countDrop_ifs (c : DropCause) (s : State) : (countDrop c s).ifs = s.ifs := rfl
@[simp] theorem countDrop_mt (c : DropCause) (s : State) : (countDrop c s).mt = s.mt := rfl
@[simp] theorem countDrop_pend (c : DropCause) (s : State) : (countDrop c s).pend = s.pend := rfl
@[simp] theorem countDrop_responses (c : DropCause) (s : State) : (countDrop c s).responses = s.responses := rfl
@[simp] theorem countDrop_txLog (c : DropCause) (s : State) : (countDrop c s).txLog = s.txLog := rfl
@[simp] theorem countDrop_queue (c : DropCause) (s : State) : (countDrop c s).queue = s.queue := rfl
@[simp] theorem countDrop_schedule (c : DropCause) (s : State) : (countDrop c s).schedule = s.schedule := rfl
@[simp] theorem countDrop_agent (c : DropCause) (s : State) : (countDrop c s).agent = s.agent := rfl

/-! ### `setStatus` -/

@[simp] theorem setStatus_params (m : Word) (s : State) : (setStatus m s).params = s.params := rfl
@[simp] theorem setStatus_ctrl (m : Word) (s : State) : (setStatus m s).ctrl = s.ctrl := rfl
@[simp] theorem setStatus_status (m : Word) (s : State) : (setStatus m s).status = s.status ||| m := rfl
@[simp] theorem setStatus_ageLimit (m : Word) (s : State) : (setStatus m s).ageLimit = s.ageLimit := rfl
@[simp] theorem setStatus_sweepPeriod (m : Word) (s : State) : (setStatus m s).sweepPeriod = s.sweepPeriod := rfl
@[simp] theorem setStatus_time (m : Word) (s : State) : (setStatus m s).time = s.time := rfl
@[simp] theorem setStatus_sweepLast (m : Word) (s : State) : (setStatus m s).sweepLast = s.sweepLast := rfl
@[simp] theorem setStatus_counters (m : Word) (s : State) : (setStatus m s).counters = s.counters := rfl
@[simp] theorem setStatus_rt (m : Word) (s : State) : (setStatus m s).rt = s.rt := rfl
@[simp] theorem setStatus_nb (m : Word) (s : State) : (setStatus m s).nb = s.nb := rfl
@[simp] theorem setStatus_ifs (m : Word) (s : State) : (setStatus m s).ifs = s.ifs := rfl
@[simp] theorem setStatus_mt (m : Word) (s : State) : (setStatus m s).mt = s.mt := rfl
@[simp] theorem setStatus_pend (m : Word) (s : State) : (setStatus m s).pend = s.pend := rfl
@[simp] theorem setStatus_responses (m : Word) (s : State) : (setStatus m s).responses = s.responses := rfl
@[simp] theorem setStatus_txLog (m : Word) (s : State) : (setStatus m s).txLog = s.txLog := rfl
@[simp] theorem setStatus_queue (m : Word) (s : State) : (setStatus m s).queue = s.queue := rfl
@[simp] theorem setStatus_schedule (m : Word) (s : State) : (setStatus m s).schedule = s.schedule := rfl
@[simp] theorem setStatus_agent (m : Word) (s : State) : (setStatus m s).agent = s.agent := rfl

/-! ### `appendResponse` -/

@[simp] theorem appendResponse_params (r : List Word) (s : State) : (appendResponse r s).params = s.params := rfl
@[simp] theorem appendResponse_ctrl (r : List Word) (s : State) : (appendResponse r s).ctrl = s.ctrl := rfl
@[simp] theorem appendResponse_status (r : List Word) (s : State) : (appendResponse r s).status = s.status := rfl
@[simp] theorem appendResponse_ageLimit (r : List Word) (s : State) : (appendResponse r s).ageLimit = s.ageLimit := rfl
@[simp] theorem appendResponse_sweepPeriod (r : List Word) (s : State) : (appendResponse r s).sweepPeriod = s.sweepPeriod := rfl
@[simp] theorem appendResponse_time (r : List Word) (s : State) : (appendResponse r s).time = s.time := rfl
@[simp] theorem appendResponse_sweepLast (r : List Word) (s : State) : (appendResponse r s).sweepLast = s.sweepLast := rfl
@[simp] theorem appendResponse_counters (r : List Word) (s : State) : (appendResponse r s).counters = s.counters := rfl
@[simp] theorem appendResponse_rt (r : List Word) (s : State) : (appendResponse r s).rt = s.rt := rfl
@[simp] theorem appendResponse_nb (r : List Word) (s : State) : (appendResponse r s).nb = s.nb := rfl
@[simp] theorem appendResponse_ifs (r : List Word) (s : State) : (appendResponse r s).ifs = s.ifs := rfl
@[simp] theorem appendResponse_mt (r : List Word) (s : State) : (appendResponse r s).mt = s.mt := rfl
@[simp] theorem appendResponse_pend (r : List Word) (s : State) : (appendResponse r s).pend = s.pend := rfl
@[simp] theorem appendResponse_responses (r : List Word) (s : State) : (appendResponse r s).responses = s.responses.set s.agent (s.responses.get s.agent ++ [r]) := rfl
@[simp] theorem appendResponse_txLog (r : List Word) (s : State) : (appendResponse r s).txLog = s.txLog := rfl
@[simp] theorem appendResponse_queue (r : List Word) (s : State) : (appendResponse r s).queue = s.queue := rfl
@[simp] theorem appendResponse_schedule (r : List Word) (s : State) : (appendResponse r s).schedule = s.schedule := rfl
@[simp] theorem appendResponse_agent (r : List Word) (s : State) : (appendResponse r s).agent = s.agent := rfl

/-! ### `respondOk` -/

@[simp] theorem respondOk_params (op : Opcode) (ws : List Word) (s : State) : (respondOk op ws s).params = s.params := rfl
@[simp] theorem respondOk_ctrl (op : Opcode) (ws : List Word) (s : State) : (respondOk op ws s).ctrl = s.ctrl := rfl
@[simp] theorem respondOk_status (op : Opcode) (ws : List Word) (s : State) : (respondOk op ws s).status = s.status := rfl
@[simp] theorem respondOk_ageLimit (op : Opcode) (ws : List Word) (s : State) : (respondOk op ws s).ageLimit = s.ageLimit := rfl
@[simp] theorem respondOk_sweepPeriod (op : Opcode) (ws : List Word) (s : State) : (respondOk op ws s).sweepPeriod = s.sweepPeriod := rfl
@[simp] theorem respondOk_time (op : Opcode) (ws : List Word) (s : State) : (respondOk op ws s).time = s.time := rfl
@[simp] theorem respondOk_sweepLast (op : Opcode) (ws : List Word) (s : State) : (respondOk op ws s).sweepLast = s.sweepLast := rfl
@[simp] theorem respondOk_counters (op : Opcode) (ws : List Word) (s : State) : (respondOk op ws s).counters = s.counters := rfl
@[simp] theorem respondOk_rt (op : Opcode) (ws : List Word) (s : State) : (respondOk op ws s).rt = s.rt := rfl
@[simp] theorem respondOk_nb (op : Opcode) (ws : List Word) (s : State) : (respondOk op ws s).nb = s.nb := rfl
@[simp] theorem respondOk_ifs (op : Opcode) (ws : List Word) (s : State) : (respondOk op ws s).ifs = s.ifs := rfl
@[simp] theorem respondOk_mt (op : Opcode) (ws : List Word) (s : State) : (respondOk op ws s).mt = s.mt := rfl
@[simp] theorem respondOk_pend (op : Opcode) (ws : List Word) (s : State) : (respondOk op ws s).pend = s.pend := rfl
@[simp] theorem respondOk_responses (op : Opcode) (ws : List Word) (s : State) : (respondOk op ws s).responses = s.responses.set s.agent (s.responses.get s.agent ++ [statusWord op.byte .ok :: ws]) := rfl
@[simp] theorem respondOk_txLog (op : Opcode) (ws : List Word) (s : State) : (respondOk op ws s).txLog = s.txLog := rfl
@[simp] theorem respondOk_queue (op : Opcode) (ws : List Word) (s : State) : (respondOk op ws s).queue = s.queue := rfl
@[simp] theorem respondOk_schedule (op : Opcode) (ws : List Word) (s : State) : (respondOk op ws s).schedule = s.schedule := rfl
@[simp] theorem respondOk_agent (op : Opcode) (ws : List Word) (s : State) : (respondOk op ws s).agent = s.agent := rfl

/-! ### `emitTx` -/

@[simp] theorem emitTx_params (e : IfaceId) (F : Frame) (s : State) : (emitTx e F s).params = s.params := rfl
@[simp] theorem emitTx_ctrl (e : IfaceId) (F : Frame) (s : State) : (emitTx e F s).ctrl = s.ctrl := rfl
@[simp] theorem emitTx_status (e : IfaceId) (F : Frame) (s : State) : (emitTx e F s).status = s.status := rfl
@[simp] theorem emitTx_ageLimit (e : IfaceId) (F : Frame) (s : State) : (emitTx e F s).ageLimit = s.ageLimit := rfl
@[simp] theorem emitTx_sweepPeriod (e : IfaceId) (F : Frame) (s : State) : (emitTx e F s).sweepPeriod = s.sweepPeriod := rfl
@[simp] theorem emitTx_time (e : IfaceId) (F : Frame) (s : State) : (emitTx e F s).time = s.time := rfl
@[simp] theorem emitTx_sweepLast (e : IfaceId) (F : Frame) (s : State) : (emitTx e F s).sweepLast = s.sweepLast := rfl
@[simp] theorem emitTx_counters (e : IfaceId) (F : Frame) (s : State) : (emitTx e F s).counters = s.counters := rfl
@[simp] theorem emitTx_rt (e : IfaceId) (F : Frame) (s : State) : (emitTx e F s).rt = s.rt := rfl
@[simp] theorem emitTx_nb (e : IfaceId) (F : Frame) (s : State) : (emitTx e F s).nb = s.nb := rfl
@[simp] theorem emitTx_ifs (e : IfaceId) (F : Frame) (s : State) : (emitTx e F s).ifs = s.ifs := rfl
@[simp] theorem emitTx_mt (e : IfaceId) (F : Frame) (s : State) : (emitTx e F s).mt = s.mt := rfl
@[simp] theorem emitTx_pend (e : IfaceId) (F : Frame) (s : State) : (emitTx e F s).pend = s.pend := rfl
@[simp] theorem emitTx_responses (e : IfaceId) (F : Frame) (s : State) : (emitTx e F s).responses = s.responses := rfl
@[simp] theorem emitTx_txLog (e : IfaceId) (F : Frame) (s : State) : (emitTx e F s).txLog = PerIface.set s.txLog e (PerIface.get s.txLog e ++ [F]) := rfl
@[simp] theorem emitTx_queue (e : IfaceId) (F : Frame) (s : State) : (emitTx e F s).queue = s.queue := rfl
@[simp] theorem emitTx_schedule (e : IfaceId) (F : Frame) (s : State) : (emitTx e F s).schedule = s.schedule := rfl
@[simp] theorem emitTx_agent (e : IfaceId) (F : Frame) (s : State) : (emitTx e F s).agent = s.agent := rfl

/-! ### `setPend` -/

@[simp] theorem setPend_params (A : Issuer) (p : Option Pending) (s : State) : (setPend A p s).params = s.params := rfl
@[simp] theorem setPend_ctrl (A : Issuer) (p : Option Pending) (s : State) : (setPend A p s).ctrl = s.ctrl := rfl
@[simp] theorem setPend_status (A : Issuer) (p : Option Pending) (s : State) : (setPend A p s).status = s.status := rfl
@[simp] theorem setPend_ageLimit (A : Issuer) (p : Option Pending) (s : State) : (setPend A p s).ageLimit = s.ageLimit := rfl
@[simp] theorem setPend_sweepPeriod (A : Issuer) (p : Option Pending) (s : State) : (setPend A p s).sweepPeriod = s.sweepPeriod := rfl
@[simp] theorem setPend_time (A : Issuer) (p : Option Pending) (s : State) : (setPend A p s).time = s.time := rfl
@[simp] theorem setPend_sweepLast (A : Issuer) (p : Option Pending) (s : State) : (setPend A p s).sweepLast = s.sweepLast := rfl
@[simp] theorem setPend_counters (A : Issuer) (p : Option Pending) (s : State) : (setPend A p s).counters = s.counters := rfl
@[simp] theorem setPend_rt (A : Issuer) (p : Option Pending) (s : State) : (setPend A p s).rt = s.rt := rfl
@[simp] theorem setPend_nb (A : Issuer) (p : Option Pending) (s : State) : (setPend A p s).nb = s.nb := rfl
@[simp] theorem setPend_ifs (A : Issuer) (p : Option Pending) (s : State) : (setPend A p s).ifs = s.ifs := rfl
@[simp] theorem setPend_mt (A : Issuer) (p : Option Pending) (s : State) : (setPend A p s).mt = s.mt := rfl
@[simp] theorem setPend_pend (A : Issuer) (p : Option Pending) (s : State) : (setPend A p s).pend = s.pend.set A p := rfl
@[simp] theorem setPend_responses (A : Issuer) (p : Option Pending) (s : State) : (setPend A p s).responses = s.responses := rfl
@[simp] theorem setPend_txLog (A : Issuer) (p : Option Pending) (s : State) : (setPend A p s).txLog = s.txLog := rfl
@[simp] theorem setPend_queue (A : Issuer) (p : Option Pending) (s : State) : (setPend A p s).queue = s.queue := rfl
@[simp] theorem setPend_schedule (A : Issuer) (p : Option Pending) (s : State) : (setPend A p s).schedule = s.schedule := rfl
@[simp] theorem setPend_agent (A : Issuer) (p : Option Pending) (s : State) : (setPend A p s).agent = s.agent := rfl

/-! ### `raiseCmdErr` -/

@[simp] theorem raiseCmdErr_params (op : Byte) (st : CmdStatus) (s : State) : (raiseCmdErr op st s).params = s.params := rfl
@[simp] theorem raiseCmdErr_ctrl (op : Byte) (st : CmdStatus) (s : State) : (raiseCmdErr op st s).ctrl = s.ctrl := rfl
@[simp] theorem raiseCmdErr_status (op : Byte) (st : CmdStatus) (s : State) : (raiseCmdErr op st s).status = s.status ||| statusCmdErr := rfl
@[simp] theorem raiseCmdErr_ageLimit (op : Byte) (st : CmdStatus) (s : State) : (raiseCmdErr op st s).ageLimit = s.ageLimit := rfl
@[simp] theorem raiseCmdErr_sweepPeriod (op : Byte) (st : CmdStatus) (s : State) : (raiseCmdErr op st s).sweepPeriod = s.sweepPeriod := rfl
@[simp] theorem raiseCmdErr_time (op : Byte) (st : CmdStatus) (s : State) : (raiseCmdErr op st s).time = s.time := rfl
@[simp] theorem raiseCmdErr_sweepLast (op : Byte) (st : CmdStatus) (s : State) : (raiseCmdErr op st s).sweepLast = s.sweepLast := rfl
@[simp] theorem raiseCmdErr_counters (op : Byte) (st : CmdStatus) (s : State) : (raiseCmdErr op st s).counters = s.counters := rfl
@[simp] theorem raiseCmdErr_rt (op : Byte) (st : CmdStatus) (s : State) : (raiseCmdErr op st s).rt = s.rt := rfl
@[simp] theorem raiseCmdErr_nb (op : Byte) (st : CmdStatus) (s : State) : (raiseCmdErr op st s).nb = s.nb := rfl
@[simp] theorem raiseCmdErr_ifs (op : Byte) (st : CmdStatus) (s : State) : (raiseCmdErr op st s).ifs = s.ifs := rfl
@[simp] theorem raiseCmdErr_mt (op : Byte) (st : CmdStatus) (s : State) : (raiseCmdErr op st s).mt = s.mt := rfl
@[simp] theorem raiseCmdErr_pend (op : Byte) (st : CmdStatus) (s : State) : (raiseCmdErr op st s).pend = s.pend := rfl
@[simp] theorem raiseCmdErr_responses (op : Byte) (st : CmdStatus) (s : State) : (raiseCmdErr op st s).responses = s.responses.set s.agent (s.responses.get s.agent ++ [[statusWord op st]]) := rfl
@[simp] theorem raiseCmdErr_txLog (op : Byte) (st : CmdStatus) (s : State) : (raiseCmdErr op st s).txLog = s.txLog := rfl
@[simp] theorem raiseCmdErr_queue (op : Byte) (st : CmdStatus) (s : State) : (raiseCmdErr op st s).queue = s.queue := rfl
@[simp] theorem raiseCmdErr_schedule (op : Byte) (st : CmdStatus) (s : State) : (raiseCmdErr op st s).schedule = s.schedule := rfl
@[simp] theorem raiseCmdErr_agent (op : Byte) (st : CmdStatus) (s : State) : (raiseCmdErr op st s).agent = s.agent := rfl

/-! ### `raiseDrop` -/

@[simp] theorem raiseDrop_params (c : DropCause) (s : State) : (raiseDrop c s).params = s.params := rfl
@[simp] theorem raiseDrop_ctrl (c : DropCause) (s : State) : (raiseDrop c s).ctrl = s.ctrl := rfl
@[simp] theorem raiseDrop_status (c : DropCause) (s : State) : (raiseDrop c s).status = s.status := rfl
@[simp] theorem raiseDrop_ageLimit (c : DropCause) (s : State) : (raiseDrop c s).ageLimit = s.ageLimit := rfl
@[simp] theorem raiseDrop_sweepPeriod (c : DropCause) (s : State) : (raiseDrop c s).sweepPeriod = s.sweepPeriod := rfl
@[simp] theorem raiseDrop_time (c : DropCause) (s : State) : (raiseDrop c s).time = s.time := rfl
@[simp] theorem raiseDrop_sweepLast (c : DropCause) (s : State) : (raiseDrop c s).sweepLast = s.sweepLast := rfl
@[simp] theorem raiseDrop_counters (c : DropCause) (s : State) : (raiseDrop c s).counters = (countDrop c s).counters := rfl
@[simp] theorem raiseDrop_rt (c : DropCause) (s : State) : (raiseDrop c s).rt = s.rt := rfl
@[simp] theorem raiseDrop_nb (c : DropCause) (s : State) : (raiseDrop c s).nb = s.nb := rfl
@[simp] theorem raiseDrop_ifs (c : DropCause) (s : State) : (raiseDrop c s).ifs = s.ifs := rfl
@[simp] theorem raiseDrop_mt (c : DropCause) (s : State) : (raiseDrop c s).mt = s.mt := rfl
@[simp] theorem raiseDrop_pend (c : DropCause) (s : State) : (raiseDrop c s).pend = s.pend := rfl
@[simp] theorem raiseDrop_responses (c : DropCause) (s : State) : (raiseDrop c s).responses = s.responses.set s.agent (s.responses.get s.agent ++ [[statusWord 0x80 .ok, verdictWord c.code 0]]) := rfl
@[simp] theorem raiseDrop_txLog (c : DropCause) (s : State) : (raiseDrop c s).txLog = s.txLog := rfl
@[simp] theorem raiseDrop_queue (c : DropCause) (s : State) : (raiseDrop c s).queue = s.queue := rfl
@[simp] theorem raiseDrop_schedule (c : DropCause) (s : State) : (raiseDrop c s).schedule = s.schedule := rfl
@[simp] theorem raiseDrop_agent (c : DropCause) (s : State) : (raiseDrop c s).agent = s.agent := rfl

/-! ### `softReset` -/

@[simp] theorem softReset_params (s : State) : (softReset s).params = s.params := rfl
@[simp] theorem softReset_ctrl (s : State) : (softReset s).ctrl = 0x00000004 := rfl
@[simp] theorem softReset_status (s : State) : (softReset s).status = 0 := rfl
@[simp] theorem softReset_ageLimit (s : State) : (softReset s).ageLimit = 15000 := rfl
@[simp] theorem softReset_sweepPeriod (s : State) : (softReset s).sweepPeriod = 1000 := rfl
@[simp] theorem softReset_time (s : State) : (softReset s).time = 0 := rfl
@[simp] theorem softReset_sweepLast (s : State) : (softReset s).sweepLast = 0 := rfl
@[simp] theorem softReset_counters (s : State) : (softReset s).counters = Counters.zero := rfl
@[simp] theorem softReset_rt (s : State) : (softReset s).rt = List.replicate s.params.rtDepth RtSlot.empty := rfl
@[simp] theorem softReset_nb (s : State) : (softReset s).nb = List.replicate s.params.nbDepth NbSlot.empty := rfl
@[simp] theorem softReset_ifs (s : State) : (softReset s).ifs = Vector.replicate 16 IfSlot.empty := rfl
@[simp] theorem softReset_mt (s : State) : (softReset s).mt = List.replicate s.params.mtDepth MtSlot.empty := rfl
@[simp] theorem softReset_pend (s : State) : (softReset s).pend = s.pend := rfl
@[simp] theorem softReset_responses (s : State) : (softReset s).responses = s.responses := rfl
@[simp] theorem softReset_txLog (s : State) : (softReset s).txLog = s.txLog := rfl
@[simp] theorem softReset_queue (s : State) : (softReset s).queue = s.queue := rfl
@[simp] theorem softReset_schedule (s : State) : (softReset s).schedule = s.schedule := rfl
@[simp] theorem softReset_agent (s : State) : (softReset s).agent = s.agent := rfl

/-! ### `hardReset` -/

@[simp] theorem hardReset_params (s : State) : (hardReset s).params = s.params := rfl
@[simp] theorem hardReset_ctrl (s : State) : (hardReset s).ctrl = 0x00000004 := rfl
@[simp] theorem hardReset_status (s : State) : (hardReset s).status = 0 := rfl
@[simp] theorem hardReset_ageLimit (s : State) : (hardReset s).ageLimit = 15000 := rfl
@[simp] theorem hardReset_sweepPeriod (s : State) : (hardReset s).sweepPeriod = 1000 := rfl
@[simp] theorem hardReset_time (s : State) : (hardReset s).time = 0 := rfl
@[simp] theorem hardReset_sweepLast (s : State) : (hardReset s).sweepLast = 0 := rfl
@[simp] theorem hardReset_counters (s : State) : (hardReset s).counters = Counters.zero := rfl
@[simp] theorem hardReset_rt (s : State) : (hardReset s).rt = List.replicate s.params.rtDepth RtSlot.empty := rfl
@[simp] theorem hardReset_nb (s : State) : (hardReset s).nb = List.replicate s.params.nbDepth NbSlot.empty := rfl
@[simp] theorem hardReset_ifs (s : State) : (hardReset s).ifs = Vector.replicate 16 IfSlot.empty := rfl
@[simp] theorem hardReset_mt (s : State) : (hardReset s).mt = List.replicate s.params.mtDepth MtSlot.empty := rfl
@[simp] theorem hardReset_pend (s : State) : (hardReset s).pend = { host := none, rx := Vector.replicate 16 none } := rfl
@[simp] theorem hardReset_responses (s : State) : (hardReset s).responses = s.responses := rfl
@[simp] theorem hardReset_txLog (s : State) : (hardReset s).txLog = s.txLog := rfl
@[simp] theorem hardReset_queue (s : State) : (hardReset s).queue = s.queue := rfl
@[simp] theorem hardReset_schedule (s : State) : (hardReset s).schedule = s.schedule := rfl
@[simp] theorem hardReset_agent (s : State) : (hardReset s).agent = s.agent := rfl

/-! ### The accessors read one field each -/

theorem State.rtAt_congr {s t : State} (h : t.rt = s.rt) (k : Nat) : t.rtAt k = s.rtAt k := by
  unfold State.rtAt; rw [h]
theorem State.nbAt_congr {s t : State} (h : t.nb = s.nb) (k : Nat) : t.nbAt k = s.nbAt k := by
  unfold State.nbAt; rw [h]
theorem State.mtAt_congr {s t : State} (h : t.mt = s.mt) (k : Nat) : t.mtAt k = s.mtAt k := by
  unfold State.mtAt; rw [h]
theorem State.ifAt_congr {s t : State} (h : t.ifs = s.ifs) (k : IfaceId) : t.ifAt k = s.ifAt k := by
  unfold State.ifAt; rw [h]
theorem State.running_congr {s t : State} (h : t.ctrl = s.ctrl) : t.running = s.running := by
  unfold State.running; rw [h]
theorem State.routerMode_congr {s t : State} (h : t.ctrl = s.ctrl) : t.routerMode = s.routerMode := by
  unfold State.routerMode; rw [h]
theorem State.ageEnabled_congr {s t : State} (h : t.ctrl = s.ctrl) : t.ageEnabled = s.ageEnabled := by
  unfold State.ageEnabled; rw [h]
theorem State.gatewayKey_congr {s t : State} (h : t.ctrl = s.ctrl) : t.gatewayKey = s.gatewayKey := by
  unfold State.gatewayKey; rw [h]

end Sys2Proof.Machine
end

