-- ==== Sys2Proof/Laws/Fields.lean ====
section
/-! SUPPORT. What the bit fields of descriptors and the bytes of frames are, said once: header fields,
reserved fields, and reading a byte after a write. -/

namespace Sys2Proof

/-! ### Header fields (30_encoding.md R61) -/

@[simp] theorem headerOp_headerWord (op a : Byte) (b : Half) : headerOp (headerWord op a b) = op := by
  ext k hk
  simp only [headerOp, headerWord, BitVec.getElem_extractLsb', BitVec.getLsbD_append]
  simp [show ¬ 24 + k < 16 by omega, show 24 + k - 16 = k + 8 by omega, BitVec.getLsbD_eq_getElem hk]

@[simp] theorem headerA_headerWord (op a : Byte) (b : Half) : headerA (headerWord op a b) = a := by
  ext k hk
  simp only [headerA, headerWord, BitVec.getElem_extractLsb', BitVec.getLsbD_append]
  simp [show ¬ 16 + k < 16 by omega, hk]

@[simp] theorem headerB_headerWord (op a : Byte) (b : Half) : headerB (headerWord op a b) = b := by
  ext k hk
  simp only [headerB, headerWord, BitVec.getElem_extractLsb', BitVec.getLsbD_append]
  simp [show k < 16 by omega, BitVec.getLsbD_eq_getElem]

/-- A header byte selects the opcode it is the byte of (30_encoding.md R62). -/
@[simp] theorem Opcode.ofByte_byte (op : Opcode) : Opcode.ofByte op.byte = some op := by cases op <;> rfl

/-- A selected opcode has the header byte that selected it. -/
theorem Opcode.byte_of_ofByte {x : Byte} {op : Opcode} (h : Opcode.ofByte x = some op) : op.byte = x := by
  have hx : x = BitVec.ofNat 8 x.toNat := by simp
  unfold Opcode.ofByte at h
  split at h <;> first | (cases h; rw [hx]; next e => rw [e]; rfl) | cases h

namespace Machine

/-! ### Reserved fields -/

/-- `a[7:4]` is 0 exactly when `a` is below 16. -/
theorem reservedA_eq_zero_iff (a : Byte) : reservedA a = 0 ↔ a.toNat < 16 := by
  rw [← BitVec.toNat_inj]
  simp [reservedA, Nat.shiftRight_eq_div_pow]
  omega

/-- `a[3:0]` of a small `a` is `a`. -/
theorem ifaceOfA_toNat {a : Byte} (h : a.toNat < 16) : (ifaceOfA a).toNat = a.toNat := by
  simp [ifaceOfA]
  omega

/-- `MAC_HI[31:16]` is 0 exactly when the word is below 65536. -/
theorem macHiReserved_eq_zero_iff (w : Word) : macHiReserved w = 0 ↔ w.toNat < 65536 := by
  rw [← BitVec.toNat_inj]
  simp [macHiReserved, Nat.shiftRight_eq_div_pow]
  omega

/-- `CTRL[31:4]` is 0 exactly when the word is below 16. -/
theorem ctrlReserved_eq_zero_iff (w : Word) : ctrlReserved w = 0 ↔ w.toNat < 16 := by
  rw [← BitVec.toNat_inj]
  simp [ctrlReserved, Nat.shiftRight_eq_div_pow]
  omega

/-- `STATUS[31:2]` is 0 exactly when the word is below 4. -/
theorem statusReserved_eq_zero_iff (w : Word) : statusReserved w = 0 ↔ w.toNat < 4 := by
  rw [← BitVec.toNat_inj]
  simp [statusReserved, Nat.shiftRight_eq_div_pow]
  omega

/-! ### Frame bytes -/

/-- A write that fits keeps the length. -/
theorem length_writeBytes {F bs : List Byte} {k : Nat} (h : k + bs.length ≤ F.length) :
    (writeBytes F k bs).length = F.length := by
  simp [writeBytes]
  omega

/-- A byte after a write that fits: the written one in the range, else the one before. -/
theorem byteAt_writeBytes {F bs : List Byte} {k : Nat} (h : k + bs.length ≤ F.length) (j : Nat) :
    byteAt (writeBytes F k bs) j = if k ≤ j ∧ j < k + bs.length then byteAt bs (j - k) else byteAt F j := by
  have hk : (F.take k).length = k := by simp; omega
  simp only [byteAt, writeBytes, List.getD_eq_getElem?_getD]
  by_cases h1 : j < k
  · rw [List.getElem?_append_left (by simp; omega), List.getElem?_append_left (by omega), if_neg (by omega)]
    simp [h1]
  · by_cases h2 : j < k + bs.length
    · rw [List.getElem?_append_left (by simp; omega), List.getElem?_append_right (by omega), if_pos (by omega), hk]
    · rw [List.getElem?_append_right (by simp; omega), if_neg (by omega)]
      simp
      congr 2
      omega

/-- Frames of one length are equal when their bytes are. -/
theorem frame_ext {F G : Frame} (hl : F.length = G.length) (h : ∀ k, byteAt F k = byteAt G k) : F = G :=
  List.ext_getElem hl fun k h1 h2 => by simpa [byteAt, List.getD_eq_getElem?_getD, h1, h2] using h k

end Machine
end Sys2Proof
end

