-- ==== Sys2Proof/Laws/Ops.lean ====
section
/-! SUPPORT. What each shared operation does, said once: containers, tables, lookups, learning, the
sweep and flooding. Later proofs cite these lemmas instead of unfolding the operations. -/

namespace Sys2Proof.Machine

/-! ### Containers -/

@[simp] theorem PerIface.get_set {α : Type} (v : PerIface α) (e f : IfaceId) (x : α) :
    PerIface.get (PerIface.set v e x) f = if e = f then x else PerIface.get v f := by
  simp [PerIface.get, PerIface.set, Vector.get_eq_getElem, Vector.getElem_set, BitVec.toNat_inj]

@[simp] theorem PerIface.get_replicate {α : Type} (x : α) (e : IfaceId) :
    PerIface.get (Vector.replicate 16 x) e = x := by
  simp [PerIface.get, Vector.get_eq_getElem]

@[simp] theorem PerIssuer.get_set {α : Type} (v : PerIssuer α) (A B : Issuer) (x : α) :
    (v.set A x).get B = if A = B then x else v.get B := by
  cases A <;> cases B <;> simp [PerIssuer.get, PerIssuer.set]

theorem PerIssuer.get_set_self {α : Type} (v : PerIssuer α) (A : Issuer) (x : α) : (v.set A x).get A = x := by simp

/-! ### Table slots after a write -/

theorem List.getD_set_eq {α : Type} (l : List α) (j k : Nat) (x d : α) :
    (l.set j x).getD k d = if j = k ∧ j < l.length then x else l.getD k d := by
  simp only [List.getD_eq_getElem?_getD, List.getElem?_set]
  by_cases h : j = k
  · subst h
    by_cases hl : j < l.length
    · simp [hl]
    · simp [hl]
  · simp [h]

theorem List.getD_replicate_eq {α : Type} (n k : Nat) (x : α) : (List.replicate n x).getD k x = x := by
  simp only [List.getD_eq_getElem?_getD, List.getElem?_replicate]
  split <;> rfl

theorem rtAt_writeRt (j k : Nat) (x : RtSlot) (s : State) :
    (writeRt j x s).rtAt k = if j = k ∧ j < s.rt.length then x else s.rtAt k := List.getD_set_eq ..

theorem nbAt_writeNb (j k : Nat) (x : NbSlot) (s : State) :
    (writeNb j x s).nbAt k = if j = k ∧ j < s.nb.length then x else s.nbAt k := List.getD_set_eq ..

theorem mtAt_writeMt (j k : Nat) (x : MtSlot) (s : State) :
    (writeMt j x s).mtAt k = if j = k ∧ j < s.mt.length then x else s.mtAt k := List.getD_set_eq ..

theorem ifAt_writeIf (e f : IfaceId) (x : IfSlot) (s : State) :
    (writeIf e x s).ifAt f = if e = f then x else s.ifAt f := PerIface.get_set ..

theorem rtAt_clearRt (k : Nat) (s : State) : (clearRt s).rtAt k = RtSlot.empty := List.getD_replicate_eq ..

theorem nbAt_clearNb (k : Nat) (s : State) : (clearNb s).nbAt k = NbSlot.empty := List.getD_replicate_eq ..

theorem mtAt_clearMt (k : Nat) (s : State) : (clearMt s).mtAt k = MtSlot.empty := List.getD_replicate_eq ..

/-- A slot past the end of `MT` reads as empty. -/
theorem mtAt_of_length_le (s : State) {k : Nat} (h : s.mt.length ≤ k) : s.mtAt k = MtSlot.empty := by
  simp [State.mtAt, List.getD_eq_getElem?_getD, List.getElem?_eq_none h]

/-- A slot past the end of `RT` reads as empty. -/
theorem rtAt_of_length_le (s : State) {k : Nat} (h : s.rt.length ≤ k) : s.rtAt k = RtSlot.empty := by
  simp [State.rtAt, List.getD_eq_getElem?_getD, List.getElem?_eq_none h]

/-- A valid slot of `MT` lies inside the table. -/
theorem mt_valid_lt (s : State) {k : Nat} (h : (s.mtAt k).v = true) : k < s.mt.length := by
  by_contra hk
  simp [mtAt_of_length_le s (not_lt.mp hk), MtSlot.empty] at h

/-- A valid slot of `RT` lies inside the table. -/
theorem rt_valid_lt (s : State) {k : Nat} (h : (s.rtAt k).v = true) : k < s.rt.length := by
  by_contra hk
  simp [rtAt_of_length_le s (not_lt.mp hk), RtSlot.empty] at h

/-! ### First-match searches -/

/-- What a search of the first index below `n` answers. -/
theorem find_range_some {n j : Nat} {P : Nat → Bool} (h : (List.range n).find? P = some j) :
    j < n ∧ P j = true ∧ ∀ k < j, P k = false := by
  obtain ⟨hP, as, bs, hl, has⟩ := List.find?_eq_some_iff_append.mp h
  have hj : j < n := List.mem_range.mp (List.mem_of_find?_eq_some h)
  refine ⟨hj, hP, fun k hk => ?_⟩
  have hlen : as.length = j := by
    have hget : (List.range n)[as.length]? = some j := by rw [hl]; simp
    rw [List.getElem?_eq_some_iff] at hget
    obtain ⟨_, hget⟩ := hget
    simpa using hget
  have hmem : k ∈ as := by
    have hget : (List.range n)[k]? = as[k]? := by rw [hl, List.getElem?_append_left (by omega)]
    rw [List.getElem?_range (by omega)] at hget
    exact List.mem_of_getElem? hget.symm
  simpa using has k hmem

/-- What a failed search says. -/
theorem find_range_none {n : Nat} {P : Nat → Bool} (h : (List.range n).find? P = none) :
    ∀ k < n, P k = false := fun k hk => by
  simpa using List.find?_eq_none.mp h k (List.mem_range.mpr hk)

/-- `mt_find` answers a valid slot that holds the address. -/
theorem mtFind_some {s : State} {m : LinkAddr} {j : Nat} (h : s.mtFind m = some j) :
    j < s.params.mtDepth ∧ (s.mtAt j).v = true ∧ (s.mtAt j).mac = m := by
  obtain ⟨hj, hP, _⟩ := find_range_some h
  simp only [Bool.and_eq_true, beq_iff_eq] at hP
  exact ⟨hj, hP⟩

/-- `mt_find` misses only when no valid slot holds the address. -/
theorem mtFind_none {s : State} {m : LinkAddr} (h : s.mtFind m = none) :
    ∀ k < s.params.mtDepth, (s.mtAt k).v = true → (s.mtAt k).mac ≠ m := fun k hk hv hm => by
  have := find_range_none h k hk
  simp [hv, hm] at this

/-- The free slot found is free, and every lower slot is in use. -/
theorem mtFree_some {s : State} {j : Nat} (h : s.mtFree = some j) :
    j < s.params.mtDepth ∧ (s.mtAt j).v = false ∧ ∀ k < j, (s.mtAt k).v = true := by
  obtain ⟨hj, hP, hlow⟩ := find_range_some h
  exact ⟨hj, by simpa using hP, fun k hk => by simpa using hlow k hk⟩

/-- No slot is free when the search fails. -/
theorem mtFree_none {s : State} (h : s.mtFree = none) : ∀ k < s.params.mtDepth, (s.mtAt k).v = true :=
  fun k hk => by simpa using find_range_none h k hk

/-- A slot is in `M` exactly when it is below the depth, valid and matching (41_route_table_lpm.md R110). -/
theorem mem_lpmMatches {s : State} {d : Word} {i : Nat} :
    i ∈ s.lpmMatches d ↔ i < s.params.rtDepth ∧ (s.rtAt i).v = true ∧ rtMatches (s.rtAt i) d = true := by
  simp [State.lpmMatches]

/-- The slot `lpm` answers is one of `M`. -/
theorem lpm_mem {s : State} {d : Word} {i : Nat} (h : s.lpm d = some i) : i ∈ s.lpmMatches d :=
  List.mem_of_find?_eq_some h

/-! ### Learning -/

/-- The three things a learn can do (45_learning_switch.md R179, R180). -/
theorem mtLearn_cases (m : LinkAddr) (i : IfaceId) (s : State) :
    (∃ j, s.mtFind m = some j ∧ mtLearn m i s = writeMt j { s.mtAt j with iface := i, lastSeen := s.time } s) ∨
    (∃ j, s.mtFind m = none ∧ s.mtFree = some j ∧
      mtLearn m i s = writeMt j { v := true, mac := m, iface := i, lastSeen := s.time } s) ∨
    (s.mtFind m = none ∧ s.mtFree = none ∧ mtLearn m i s = countLearnOvf (setStatus statusMtOvf s)) := by
  unfold mtLearn
  rcases s.mtFind m with _ | j
  · rcases s.mtFree with _ | j <;> simp
  · simp

/-- A learn writes `MT`, `STATUS` and `CNT_LEARN_OVF` only. -/
theorem mtLearn_frame (m : LinkAddr) (i : IfaceId) (s : State) :
    mtLearn m i s = { s with mt := (mtLearn m i s).mt, status := (mtLearn m i s).status,
                             counters := (mtLearn m i s).counters } := by
  rcases mtLearn_cases m i s with ⟨j, _, h⟩ | ⟨j, _, _, h⟩ | ⟨_, _, h⟩ <;> rw [h] <;> rfl

/-! ### The sweep and the tick -/

/-- A slot after a sweep (45_learning_switch.md R191). -/
theorem mtAt_sweep (s : State) (j : Nat) :
    (sweep s).mtAt j = if staleAt s.time s.ageLimit (s.mtAt j) then MtSlot.empty else s.mtAt j := by
  simp only [sweep, State.mtAt, countEvicted, List.getD_eq_getElem?_getD, List.getElem?_map]
  cases s.mt[j]? <;> simp [staleAt, MtSlot.empty]

@[simp] theorem sweep_mt_length (s : State) : (sweep s).mt.length = s.mt.length := by simp [sweep]

/-- A sweep writes `MT` and `CNT_EVICT` only. -/
theorem sweep_frame (s : State) :
    sweep s = { s with mt := (sweep s).mt, counters := (countEvicted (s.mt.countP (staleAt s.time s.ageLimit)) s).counters } := rfl

/-- The two things a tick can do (45_learning_switch.md R190). -/
theorem tick_cases (s : State) :
    ((advanceTime s).sweepDue = false ∧ tick s = advanceTime s) ∨
    ((advanceTime s).sweepDue = true ∧ tick s = countSweep (markSweep (sweep (advanceTime s)))) := by
  unfold tick
  cases h : (advanceTime s).sweepDue
  · exact .inl ⟨rfl, if_neg (by simp)⟩
  · exact .inr ⟨rfl, if_pos rfl⟩

/-! ### Flooding -/

/-- Transmitting on a list of interfaces appends to transmit logs only. -/
theorem emitAll_frame (es : List IfaceId) (F : Frame) (s : State) :
    emitAll es F s = { s with txLog := (emitAll es F s).txLog } := by
  induction es generalizing s with
  | nil => rfl
  | cons e es ih => exact (ih (emitTx e F s)).trans rfl

/-- A transmit log after transmitting once on each interface of a list. -/
theorem emitAll_txLog (es : List IfaceId) (hn : es.Nodup) (F : Frame) (s : State) (f : IfaceId) :
    PerIface.get (emitAll es F s).txLog f =
      if f ∈ es then PerIface.get s.txLog f ++ [F] else PerIface.get s.txLog f := by
  induction es generalizing s with
  | nil => simp [emitAll]
  | cons e es ih =>
    obtain ⟨he, hes⟩ := List.nodup_cons.mp hn
    have := ih hes (emitTx e F s)
    simp only [emitAll, List.foldl_cons] at this ⊢
    rw [this]
    by_cases hfe : e = f
    · subst hfe; simp [he]
    · simp [hfe, Ne.symm hfe]

/-- The flood set holds the configured interfaces other than the ingress one (45_learning_switch.md R182). -/
theorem mem_floodSet (s : State) (i e : IfaceId) :
    e ∈ s.floodSet i ↔ e.toNat < s.params.nIf ∧ (s.ifAt e).en = true ∧ e ≠ i := by
  have hall : e ∈ (List.range 16).map (BitVec.ofNat 4) :=
    List.mem_map.mpr ⟨e.toNat, List.mem_range.mpr e.isLt, by simp⟩
  simp [State.floodSet, List.mem_filter, hall, and_assoc]

/-- No interface is twice in the flood set. -/
theorem floodSet_nodup (s : State) (i : IfaceId) : (s.floodSet i).Nodup := by
  unfold State.floodSet
  exact List.Nodup.filter _ (by decide)

end Sys2Proof.Machine
end

