-- ==== Sys2Proof/Laws/Meanings.lean ====
section
/-! SUPPORT. What a meaning can do, said once: a command error, one of a few writes followed by a response
with status `OK`, or a frame step. Proofs over all instructions cite `exec_cases`. -/

namespace Sys2Proof.Machine

/-- `Written s i u`: `u` is the state after the writes of instruction `i` on `s`, before its response,
when `i` ends with status `OK`. Every guard the rule of `i` puts on the write is a premise. -/
inductive Written : State → Instr → State → Prop
  | same {s : State} {i : Instr} (h : readsOnly i = true) : Written s i s
  | ctrl {s : State} {a : Byte} {w : Word} (hr : ctrlReserved w = 0)
      (hb : s.running = true → ctrlMode w = s.routerMode ∧ ctrlNhGw w = s.gatewayKey)
      (hs : s.running = false → ctrlRun w = false) : Written s (.ctrlWr a 0 w) (setCtrl w s)
  | start {s : State} {a : Byte} {w : Word} (hr : ctrlReserved w = 0) (ho : s.running = false)
      (hn : ctrlRun w = true) : Written s (.ctrlWr a 0 w) (startRunning (setCtrl w s))
  | status {s : State} {a : Byte} {w : Word} (hr : statusReserved w = 0) :
      Written s (.ctrlWr a 0 w) (clearStatus w s)
  | ageLimit {s : State} {a : Byte} {w : Word} : Written s (.ctrlWr a 0 w) (setAgeLimit w s)
  | sweepPeriod {s : State} {a : Byte} {w : Word} : Written s (.ctrlWr a 0 w) (setSweepPeriod w s)
  | reset {s : State} : Written s (.softReset 0 softResetKey) (softReset s)
  | iface {s : State} {a : Byte} {b : Half} {ip hi lo : Word} (hi' : (ifaceOfA a).toNat < s.params.nIf)
      (ho : s.running = false) :
      Written s (.ifWr a b ip hi lo) (writeIf (ifaceOfA a) { en := flagOfB b, ip := ip, mac := macOfWords hi lo } s)
  | route {s : State} {a : Byte} {b : Half} {pfx mask nextHop : Word} (ha : a.toNat < s.params.rtDepth)
      (hc : flagOfB b = true → contiguous mask = true ∧ (ifaceOfB b).toNat < s.params.nIf)
      (ho : s.running = false) :
      Written s (.rtWr a b pfx mask nextHop)
        (writeRt a.toNat { v := flagOfB b, pfx := pfx, mask := mask, nextHop := nextHop, iface := ifaceOfB b } s)
  | routes {s : State} (ho : s.running = false) : Written s (.rtClr 0 0) (clearRt s)
  | neighbor {s : State} {a : Byte} {b : Half} {ip hi lo : Word} (ha : a.toNat < s.params.nbDepth)
      (ho : s.running = false) :
      Written s (.nbWr a b ip hi lo) (writeNb a.toNat { v := flagOfB b, ip := ip, mac := macOfWords hi lo } s)
  | neighbors {s : State} (ho : s.running = false) : Written s (.nbClr 0 0) (clearNb s)

/-- The conclusion of `exec_cases` for one instruction and its meaning `r`. -/
def EndsWell (i : Instr) (s : State) (r : Result) : Prop :=
  (∃ st, st ≠ .ok ∧ r = .next (raiseCmdErr i.opcode.byte st s)) ∨
  (∃ ws u, Written s i u ∧ r = .next (respondOk i.opcode ws u)) ∨
  (∃ a F, i = .frame a F ∧ F.length ≤ s.params.maxFrame ∧ reservedA a = 0 ∧
    (ifaceOfA a).toNat < s.params.nIf ∧ r = .next (frameStep F (ifaceOfA a) s))

theorem EndsWell.err {i : Instr} {s : State} {op : Opcode} (st : CmdStatus) (hst : st ≠ .ok) (hop : i.opcode = op) :
    EndsWell i s (cmdErr op st s) := .inl ⟨st, hst, by rw [hop]; rfl⟩

theorem EndsWell.ok {i : Instr} {s u : State} {op : Opcode} {ws : List Word} (h : Written s i u) (hop : i.opcode = op) :
    EndsWell i s (done op ws u) := .inr (.inl ⟨ws, u, h, by rw [hop]; rfl⟩)

theorem execNop_ends (a : Byte) (b : Half) (s : State) : EndsWell (.nop a b) s (execNop a b s) := by
  unfold execNop
  split
  · exact .err .field (by decide) rfl
  · exact .ok (.same rfl) rfl

theorem execCtrlRd_ends (a : Byte) (b : Half) (s : State) : EndsWell (.ctrlRd a b) s (execCtrlRd a b s) := by
  unfold execCtrlRd
  split
  · exact .err .field (by decide) rfl
  · split
    · exact .err .register (by decide) rfl
    · exact .ok (.same rfl) rfl

theorem writeCtrl_ends (a : Byte) (w : Word) (s : State) : EndsWell (.ctrlWr a 0 w) s (writeCtrl w s) := by
  unfold writeCtrl
  split
  · exact .err .field (by decide) rfl
  · next hr =>
    split
    · exact .err .busy (by decide) rfl
    · next hb =>
      split
      · next hs => exact .ok (.start (by simpa using hr) (by simpa using hs.1) hs.2) rfl
      · next hs =>
        refine .ok (.ctrl (by simpa using hr) (fun h => ?_) (fun h => ?_)) rfl
        · simp only [h, true_and, not_or, not_not] at hb; exact hb
        · simpa [h] using hs

theorem writeStatus_ends (a : Byte) (w : Word) (s : State) : EndsWell (.ctrlWr a 0 w) s (writeStatus w s) := by
  unfold writeStatus
  split
  · exact .err .field (by decide) rfl
  · next hr => exact .ok (.status (by simpa using hr)) rfl

theorem execCtrlWr_ends (a : Byte) (b : Half) (w : Word) (s : State) : EndsWell (.ctrlWr a b w) s (execCtrlWr a b w s) := by
  unfold execCtrlWr
  split
  · exact .err .field (by decide) rfl
  · next hb =>
    obtain rfl : b = 0 := by simpa using hb
    split
    · exact writeCtrl_ends a w s
    · exact writeStatus_ends a w s
    · exact .ok .ageLimit rfl
    · exact .ok .sweepPeriod rfl
    · exact .err .register (by decide) rfl

theorem execTimeRd_ends (a : Byte) (b : Half) (s : State) : EndsWell (.timeRd a b) s (execTimeRd a b s) := by
  unfold execTimeRd
  split
  · exact .err .field (by decide) rfl
  · exact .ok (.same rfl) rfl

theorem execSoftReset_ends (a : Byte) (b : Half) (s : State) : EndsWell (.softReset a b) s (execSoftReset a b s) := by
  unfold execSoftReset
  split
  · exact .err .field (by decide) rfl
  · next h =>
    obtain ⟨rfl, rfl⟩ : a = 0 ∧ b = softResetKey := by simpa [not_or] using h
    exact .ok .reset rfl

theorem execIfWr_ends (a : Byte) (b : Half) (ip hi lo : Word) (s : State) :
    EndsWell (.ifWr a b ip hi lo) s (execIfWr a b ip hi lo s) := by
  unfold execIfWr
  split
  · exact .err .field (by decide) rfl
  · split
    · exact .err .index (by decide) rfl
    · next hi' =>
      split
      · exact .err .field (by decide) rfl
      · split
        · exact .err .busy (by decide) rfl
        · next ho => exact .ok (.iface (by omega) (by simpa using ho)) rfl

theorem execIfRd_ends (a : Byte) (b : Half) (s : State) : EndsWell (.ifRd a b) s (execIfRd a b s) := by
  unfold execIfRd
  split
  · exact .err .field (by decide) rfl
  · split
    · exact .err .index (by decide) rfl
    · exact .ok (.same rfl) rfl

theorem execRtWr_ends (a : Byte) (b : Half) (pfx mask nextHop : Word) (s : State) :
    EndsWell (.rtWr a b pfx mask nextHop) s (execRtWr a b pfx mask nextHop s) := by
  unfold execRtWr
  split
  · exact .err .field (by decide) rfl
  · split
    · exact .err .index (by decide) rfl
    · next ha =>
      split
      · exact .err .field (by decide) rfl
      · next hc =>
        split
        · exact .err .field (by decide) rfl
        · next hn =>
          split
          · exact .err .busy (by decide) rfl
          · next ho =>
            refine .ok (.route (by omega) (fun hv => ⟨?_, ?_⟩) (by simpa using ho)) rfl
            · simpa [hv] using hc
            · simpa [hv] using hn

theorem execRtRd_ends (a : Byte) (b : Half) (s : State) : EndsWell (.rtRd a b) s (execRtRd a b s) := by
  unfold execRtRd
  split
  · exact .err .field (by decide) rfl
  · split
    · exact .err .index (by decide) rfl
    · exact .ok (.same rfl) rfl

theorem execRtClr_ends (a : Byte) (b : Half) (s : State) : EndsWell (.rtClr a b) s (execRtClr a b s) := by
  unfold execRtClr
  split
  · exact .err .field (by decide) rfl
  · next h =>
    obtain ⟨rfl, rfl⟩ : a = 0 ∧ b = 0 := by simpa [not_or] using h
    split
    · exact .err .busy (by decide) rfl
    · next ho => exact .ok (.routes (by simpa using ho)) rfl

theorem execRtLkup_ends (a : Byte) (b : Half) (d : Word) (s : State) : EndsWell (.rtLkup a b d) s (execRtLkup a b d s) := by
  unfold execRtLkup
  split
  · exact .err .field (by decide) rfl
  · split <;> exact .ok (.same rfl) rfl

theorem execNbWr_ends (a : Byte) (b : Half) (ip hi lo : Word) (s : State) :
    EndsWell (.nbWr a b ip hi lo) s (execNbWr a b ip hi lo s) := by
  unfold execNbWr
  split
  · exact .err .field (by decide) rfl
  · split
    · exact .err .index (by decide) rfl
    · next ha =>
      split
      · exact .err .field (by decide) rfl
      · split
        · exact .err .busy (by decide) rfl
        · next ho => exact .ok (.neighbor (by omega) (by simpa using ho)) rfl

theorem execNbRd_ends (a : Byte) (b : Half) (s : State) : EndsWell (.nbRd a b) s (execNbRd a b s) := by
  unfold execNbRd
  split
  · exact .err .field (by decide) rfl
  · split
    · exact .err .index (by decide) rfl
    · exact .ok (.same rfl) rfl

theorem execNbClr_ends (a : Byte) (b : Half) (s : State) : EndsWell (.nbClr a b) s (execNbClr a b s) := by
  unfold execNbClr
  split
  · exact .err .field (by decide) rfl
  · next h =>
    obtain ⟨rfl, rfl⟩ : a = 0 ∧ b = 0 := by simpa [not_or] using h
    split
    · exact .err .busy (by decide) rfl
    · next ho => exact .ok (.neighbors (by simpa using ho)) rfl

theorem execNbLkup_ends (a : Byte) (b : Half) (ip : Word) (s : State) : EndsWell (.nbLkup a b ip) s (execNbLkup a b ip s) := by
  unfold execNbLkup
  split
  · exact .err .field (by decide) rfl
  · split <;> exact .ok (.same rfl) rfl

theorem execMtRd_ends (a : Byte) (b : Half) (s : State) : EndsWell (.mtRd a b) s (execMtRd a b s) := by
  unfold execMtRd
  split
  · exact .err .field (by decide) rfl
  · split
    · exact .err .index (by decide) rfl
    · exact .ok (.same rfl) rfl

theorem execMtLkup_ends (a : Byte) (b : Half) (hi lo : Word) (s : State) :
    EndsWell (.mtLkup a b hi lo) s (execMtLkup a b hi lo s) := by
  unfold execMtLkup
  split
  · exact .err .field (by decide) rfl
  · split
    · exact .err .field (by decide) rfl
    · split <;> exact .ok (.same rfl) rfl

theorem execCsum_ends (a : Byte) (bytes : List Byte) (s : State) : EndsWell (.csum a bytes) s (execCsum a bytes s) := by
  unfold execCsum
  split
  · exact .err .length (by decide) rfl
  · split
    · exact .err .field (by decide) rfl
    · exact .ok (.same rfl) rfl

theorem execHdrVfy_ends (a : Byte) (bytes : List Byte) (s : State) : EndsWell (.hdrVfy a bytes) s (execHdrVfy a bytes s) := by
  unfold execHdrVfy
  split
  · exact .err .length (by decide) rfl
  · split
    · exact .err .field (by decide) rfl
    · exact .ok (.same rfl) rfl

theorem execFrame_ends (a : Byte) (F : Frame) (s : State) : EndsWell (.frame a F) s (execFrame a F s) := by
  unfold execFrame
  split
  · exact .err .length (by decide) rfl
  · next hl =>
    split
    · exact .err .field (by decide) rfl
    · next hr =>
      split
      · exact .err .index (by decide) rfl
      · next hi => exact .inr (.inr ⟨a, F, rfl, by omega, by simpa using hr, by omega, rfl⟩)

/-- What an instruction can do, whichever it is: a command error, writes and an `OK` response, or the
first step of a frame. -/
theorem exec_cases (i : Instr) (s : State) : EndsWell i s (exec i s) := by
  cases i with
  | nop a b => exact execNop_ends a b s
  | ctrlRd a b => exact execCtrlRd_ends a b s
  | ctrlWr a b w => exact execCtrlWr_ends a b w s
  | timeRd a b => exact execTimeRd_ends a b s
  | softReset a b => exact execSoftReset_ends a b s
  | ifWr a b ip hi lo => exact execIfWr_ends a b ip hi lo s
  | ifRd a b => exact execIfRd_ends a b s
  | rtWr a b pfx mask nextHop => exact execRtWr_ends a b pfx mask nextHop s
  | rtRd a b => exact execRtRd_ends a b s
  | rtClr a b => exact execRtClr_ends a b s
  | rtLkup a b d => exact execRtLkup_ends a b d s
  | nbWr a b ip hi lo => exact execNbWr_ends a b ip hi lo s
  | nbRd a b => exact execNbRd_ends a b s
  | nbClr a b => exact execNbClr_ends a b s
  | nbLkup a b ip => exact execNbLkup_ends a b ip s
  | mtRd a b => exact execMtRd_ends a b s
  | mtLkup a b hi lo => exact execMtLkup_ends a b hi lo s
  | csum a bytes => exact execCsum_ends a bytes s
  | hdrVfy a bytes => exact execHdrVfy_ends a bytes s
  | frame a F => exact execFrame_ends a F s

/-- The ends of the router pipeline: a drop, or a transmission on the interface of the route found. -/
theorem route_cases (F : Frame) (s : State) :
    (∃ c, s.routeDecision F = .error c ∧ route F s = raiseDrop c s) ∨
    (∃ e F', s.routeDecision F = .ok (e, F') ∧ route F s = routed e F' s) := by
  unfold route
  cases s.routeDecision F with
  | error c => exact .inl ⟨c, rfl, rfl⟩
  | ok p => exact .inr ⟨p.1, p.2, rfl, rfl⟩

/-- What a frame that the pipeline forwards went through (44_router_forwarder.md R161). -/
theorem routeDecision_ok {s : State} {F : Frame} {e : IfaceId} {F' : Frame} (h : s.routeDecision F = .ok (e, F')) :
    etype F = etypeIPv4 ∧ malformed F = false ∧ hdrValid (ipHeader F) = true ∧ ttl F ≠ 0 ∧ ttl F ≠ 1 ∧
    s.selfDestined (dst F) = false ∧
    ∃ ri qi, s.lpm (dst F) = some ri ∧ s.nbLookup (s.nbKey ri (dst F)) = some qi ∧ e = (s.rtAt ri).iface ∧
      F' = mutate F (ttl F - 1) (s.nbAt qi).mac (s.ifAt e).mac := by
  unfold State.routeDecision at h
  split at h
  · cases h
  next h1 =>
  split at h
  · cases h
  next h2 =>
  split at h
  · cases h
  next h3 =>
  split at h
  · cases h
  next h4 =>
  split at h
  · cases h
  next h5 =>
  split at h
  · cases h
  next ri h6 =>
  split at h
  · cases h
  next qi h7 =>
  simp only [Except.ok.injEq, Prod.mk.injEq] at h
  obtain ⟨rfl, rfl⟩ := h
  rw [not_or] at h4
  exact ⟨not_not.mp h1, by simpa using h2, by simpa using h3, h4.1, h4.2, by simpa using h5, ri, qi, h6, h7, rfl, rfl⟩

/-- The ends of the first step of a frame (44_router_forwarder.md R150). -/
theorem frameStep_cases (F : Frame) (i : IfaceId) (s : State) :
    (∃ c, frameStep F i s = raiseDrop c s) ∨
    (∃ e F', s.routeDecision F = .ok (e, F') ∧ s.running = true ∧ s.routerMode = true ∧ frameStep F i s = routed e F' s) ∨
    (s.running = true ∧ (s.ifAt i).en = true ∧ 14 ≤ F.length ∧ s.routerMode = false ∧
      frameStep F i s = learnStep F i s) := by
  unfold frameStep
  split
  · exact .inl ⟨_, rfl⟩
  next hr =>
  split
  · exact .inl ⟨_, rfl⟩
  next he =>
  split
  · exact .inl ⟨_, rfl⟩
  next hl =>
  split
  · next hm =>
    rcases route_cases F s with ⟨c, _, h⟩ | ⟨e, F', hd, h⟩
    · exact .inl ⟨c, h⟩
    · exact .inr (.inl ⟨e, F', hd, by simpa using hr, hm, h⟩)
  · next hm => exact .inr (.inr ⟨by simpa using hr, by simpa using he, by omega, by simpa using hm, rfl⟩)

/-- The ends of the forward step (45_learning_switch.md R177). -/
theorem forwardStep_cases (p : Pending) (s : State) :
    (forwardStep p s = raiseDrop .notRun (setPend s.agent none s)) ∨
    (∃ j, s.mtFind (dmac p.bytes) = some j ∧
      forwardStep p s = forwardHit p.bytes (s.mtAt j).iface (setPend s.agent none s)) ∨
    (s.mtFind (dmac p.bytes) = none ∧ forwardStep p s = flood p.bytes p.iface (setPend s.agent none s)) := by
  unfold forwardStep
  simp only
  split
  · exact .inl rfl
  · split
    · next j h => exact .inr (.inl ⟨j, h, rfl⟩)
    · next h => exact .inr (.inr ⟨h, rfl⟩)

end Sys2Proof.Machine
end

