-- ==== Sys2Proof/Laws/PerInstr.lean ====
section
/-! SUPPORT. Facts about every instruction as syntax, one lemma per constructor. -/

namespace Sys2Proof.Laws.EncodesItsOpcode

open Sys2Proof

/-- The header byte of an instruction's encoding is that of its opcode, and it selects that opcode
(30_encoding.md R61, R62). -/
def Statement (i : Instr) : Prop :=
  headerOp (encode i).header = i.opcode.byte ∧ Opcode.ofByte (headerOp (encode i).header) = some i.opcode

/-- A descriptor built from an opcode selects it. -/
theorem of_descriptor (op : Opcode) (a : Byte) (b : Half) (ws : List Word) :
    headerOp (descriptorOf op a b ws).header = op.byte ∧
    Opcode.ofByte (headerOp (descriptorOf op a b ws).header) = some op := by simp [descriptorOf]

theorem nop (a : Byte) (b : Half) : Statement (.nop a b) := of_descriptor ..

theorem ctrlRd (a : Byte) (b : Half) : Statement (.ctrlRd a b) := of_descriptor ..

theorem ctrlWr (a : Byte) (b : Half) (v : Word) : Statement (.ctrlWr a b v) := of_descriptor ..

theorem timeRd (a : Byte) (b : Half) : Statement (.timeRd a b) := of_descriptor ..

theorem softReset (a : Byte) (b : Half) : Statement (.softReset a b) := of_descriptor ..

theorem ifWr (a : Byte) (b : Half) (w1 w2 w3 : Word) : Statement (.ifWr a b w1 w2 w3) := of_descriptor ..

theorem ifRd (a : Byte) (b : Half) : Statement (.ifRd a b) := of_descriptor ..

theorem rtWr (a : Byte) (b : Half) (w1 w2 w3 : Word) : Statement (.rtWr a b w1 w2 w3) := of_descriptor ..

theorem rtRd (a : Byte) (b : Half) : Statement (.rtRd a b) := of_descriptor ..

theorem rtClr (a : Byte) (b : Half) : Statement (.rtClr a b) := of_descriptor ..

theorem rtLkup (a : Byte) (b : Half) (w1 : Word) : Statement (.rtLkup a b w1) := of_descriptor ..

theorem nbWr (a : Byte) (b : Half) (w1 w2 w3 : Word) : Statement (.nbWr a b w1 w2 w3) := of_descriptor ..

theorem nbRd (a : Byte) (b : Half) : Statement (.nbRd a b) := of_descriptor ..

theorem nbClr (a : Byte) (b : Half) : Statement (.nbClr a b) := of_descriptor ..

theorem nbLkup (a : Byte) (b : Half) (w1 : Word) : Statement (.nbLkup a b w1) := of_descriptor ..

theorem mtRd (a : Byte) (b : Half) : Statement (.mtRd a b) := of_descriptor ..

theorem mtLkup (a : Byte) (b : Half) (w1 w2 : Word) : Statement (.mtLkup a b w1 w2) := of_descriptor ..

theorem csum (a : Byte) (bytes : List Byte) : Statement (.csum a bytes) := of_descriptor ..

theorem hdrVfy (a : Byte) (bytes : List Byte) : Statement (.hdrVfy a bytes) := of_descriptor ..

theorem frame (a : Byte) (bytes : List Byte) : Statement (.frame a bytes) := of_descriptor ..

end Sys2Proof.Laws.EncodesItsOpcode
end

