-- ==== Sys2Proof/Laws/Step.lean ====
section
/-! SUPPORT. What a step can do, said once: `step_cases`. -/

namespace Sys2Proof.Machine

/-- The ends of handling one descriptor. -/
theorem issue_cases (A : Issuer) (d : Descriptor) (s : State) :
    (∃ i, decode d = .ok i ∧ issue A d s = exec i { s with agent := A }) ∨
    (∃ e, decode d = .error e ∧
      issue A d s = .next (raiseCmdErr (headerOp d.header) (decodeStatus e) { s with agent := A })) := by
  unfold issue
  cases decode d with
  | ok i => exact .inl ⟨i, rfl, rfl⟩
  | error e => exact .inr ⟨e, rfl, rfl⟩

/-- Every way a step can go, with the state it acts on. -/
theorem step_cases (s : State) :
    (s.schedule = [] ∧ step s = .next s) ∨
    (∃ rest, s.schedule = .timer :: rest ∧ step s = .next (tick { s with schedule := rest })) ∨
    (∃ rest, s.schedule = .reset :: rest ∧ step s = .next (hardReset { s with schedule := rest })) ∨
    (∃ A rest p, s.schedule = .agent A :: rest ∧ s.pend.get A = some p ∧
      step s = .next (forwardStep p { s with schedule := rest, agent := A })) ∨
    (∃ A rest, s.schedule = .agent A :: rest ∧ s.pend.get A = none ∧ s.queue.get A = [] ∧
      step s = .next { s with schedule := rest }) ∨
    (∃ A rest d ds, s.schedule = .agent A :: rest ∧ s.pend.get A = none ∧ s.queue.get A = d :: ds ∧
      mayIssue s.params A d = true ∧
      step s = issue A d { s with schedule := rest, queue := s.queue.set A ds }) ∨
    (∃ A rest d ds, s.schedule = .agent A :: rest ∧ s.pend.get A = none ∧ s.queue.get A = d :: ds ∧
      mayIssue s.params A d = false ∧ step s = .fault .rxDiscipline) := by
  unfold step nextStep
  rcases hs : s.schedule with _ | ⟨turn, rest⟩
  · exact .inl ⟨rfl, rfl⟩
  right
  cases turn with
  | timer => exact .inl ⟨rest, rfl, rfl⟩
  | reset => exact .inr (.inl ⟨rest, rfl, rfl⟩)
  | agent A =>
    right; right
    simp only [runTurn, agentTurn]
    rcases hp : s.pend.get A with _ | p
    · right
      rcases hq : s.queue.get A with _ | ⟨d, ds⟩
      · exact .inl ⟨A, rest, rfl, hp, hq, rfl⟩
      · right
        cases hm : mayIssue s.params A d
        · exact .inr ⟨A, rest, d, ds, rfl, hp, hq, hm, by simp [hm]⟩
        · exact .inl ⟨A, rest, d, ds, rfl, hp, hq, hm, by simp [hm]⟩
    · exact .inl ⟨A, rest, p, rfl, hp, rfl⟩

end Sys2Proof.Machine
end

