-- ==== Sys2Proof/Tests/Slice0.lean ====
section
/-! SUPPORT. Tests. Expected values are taken from spec/30_encoding.md section 6 and spec/95_test_vectors.md
(the vector is named beside each), or calculated by hand from the rule named. The theorems `witness_…` show
that the hypotheses of the statements can be met, clause by clause, at boundary values. -/

namespace Sys2Proof.Tests

open Sys2Proof Sys2Proof.Machine

/-! ### Helpers -/

/-- Whether a descriptor decodes to an instruction. -/
def decodesTo (d : Descriptor) (i : Instr) : Bool :=
  match decode d with
  | .ok j => j == i
  | .error _ => false

/-- One observation of the next state, if there is one. -/
def observe {α : Type} (f : State → α) : Result → Option α
  | .next t => some (f t)
  | .fault _ => none
  | .refused _ => none

/-- The response log of `HOST` after one descriptor issued by it. -/
def answer (s : State) (ws : List Word) : Option (List (List Word)) :=
  match ws with
  | [] => none
  | w :: rest => observe (fun t => t.responses.host)
      (step { s with schedule := [.agent .host], queue := { s.queue with host := [{ header := w, rest := rest }] } })

/-- Stopped, `CTRL` at its reset value: the tables of CFG-R (spec/95_test_vectors.md section 0). -/
def stoppedR : State :=
  writeIf 0 { en := true, ip := 0x0A010001, mac := 0x0A0000000001 } <|
  writeIf 1 { en := true, ip := 0x0A000001, mac := 0x0A0000000002 } <|
  writeIf 2 { en := true, ip := 0xC0A80101, mac := 0x0A0000000003 } <|
  writeRt 0 { v := true, pfx := 0x0A000000, mask := 0xFF000000, nextHop := 0, iface := 0 } <|
  writeRt 1 { v := true, pfx := 0x0A000000, mask := 0xFFFFFF00, nextHop := 0, iface := 1 } <|
  writeRt 2 { v := true, pfx := 0, mask := 0, nextHop := 0xC0A801FE, iface := 2 } <|
  writeNb 0 { v := true, ip := 0x0A000005, mac := 0x0A0000000055 } <|
  writeNb 1 { v := true, ip := 0xC0A801FE, mac := 0x0A00000000FE } State.reset

/-- Set-up CFG-R, with the given `CTRL`. -/
def routerWith (ctrl : Word) : State := { stoppedR with ctrl := ctrl }

/-- Set-up CFG-R. -/
def router : State := routerWith 7

/-- Set-up CFG-S: four interfaces, switch mode, an empty MAC table. -/
def switch : State :=
  writeIf 0 { en := true, ip := 0, mac := 0x0A0000000001 } <|
  writeIf 1 { en := true, ip := 0, mac := 0x0A0000000002 } <|
  writeIf 2 { en := true, ip := 0, mac := 0x0A0000000003 } <|
  writeIf 3 { en := true, ip := 0, mac := 0x0A0000000004 } { State.reset with ctrl := 5 }

/-- CFG-S after address 0A:00:00:00:00:AA was learned on interface 0 at time 500 (95 section 1.6). -/
def switchAA (time : Stamp) : State :=
  { writeMt 0 { v := true, mac := 0x0A00000000AA, iface := 0, lastSeen := 500 } switch with time := time }

/-- CFG-S with every slot of the MAC table in use. -/
def switchFull : State :=
  { switch with mt := (List.range 4).map (fun k =>
      { v := true, mac := BitVec.ofNat 48 (k + 1), iface := 0, lastSeen := 0 }) }

/-- The 16-byte frames of 95 section 1.5. -/
def shortFrame (dstLow srcLow : Byte) : Frame :=
  [0x0A, 0, 0, 0, 0, dstLow, 0x0A, 0, 0, 0, 0, srcLow, 0x08, 0x00, 0xBE, 0xEF]

/-- `PKT(dst, ttl)` with its checksum word (spec/95_test_vectors.md section 0), `dst` as two halves. -/
def packet (ttl : Byte) (check dstHi dstLo : Half) : Frame :=
  [0x0A, 0, 0, 0, 0, 0x03, 0x0A, 0, 0, 0, 0, 0xAA, 0x08, 0x00, 0x45, 0x00, 0x00, 0x1C, 0x12, 0x34, 0x00, 0x00,
   ttl, 0x11] ++ bytesOf16 check ++ [0xC0, 0xA8, 0x01, 0x07] ++ bytesOf16 dstHi ++ bytesOf16 dstLo ++
  [0x04, 0xD2, 0x16, 0x2E, 0x00, 0x08, 0x00, 0x00]

/-- CFG-R without its default route. -/
def routerNoDefault : State := writeRt 2 RtSlot.empty router

/-- A full latch of `RX[1]` at its turn. -/
def latched (s : State) : State :=
  { setPend (.rx 1) (some { bytes := shortFrame 0xAA 0xBB, iface := 1 }) s with schedule := [.agent (.rx 1)] }

/-- An entry of age 0 and a number of ticks to come. -/
def ticking (n : Nat) : State := { switchAA 500 with schedule := List.replicate n .timer }

/-- An engine with the smallest `MAX_FRAME`. -/
def smallFrames (s : State) : State := { s with params := { s.params with maxFrame := 64 } }

/-- A state where it is the turn of an agent with one descriptor left. -/
def turnOf (A : Issuer) (d : Descriptor) (s : State) : State :=
  { s with schedule := [.agent A], queue := s.queue.set A [d] }

/-! ### Well-formedness: each check refuses (30_encoding.md R63, R64; 20_memory.md R46) -/

theorem test_wf_nop : Instr.wellFormed Params.test (.nop 0 0) = true ∧
    Instr.wellFormed Params.test (.nop 1 0) = false ∧ Instr.wellFormed Params.test (.nop 0 1) = false := by decide
theorem test_wf_ctrl : Instr.wellFormed Params.test (.ctrlRd 0xFF 0) = true ∧
    Instr.wellFormed Params.test (.ctrlRd 0 1) = false ∧ Instr.wellFormed Params.test (.ctrlWr 8 0x8000 0) = false := by
  decide
theorem test_wf_timeRd_softReset : Instr.wellFormed Params.test (.timeRd 1 0) = false ∧
    Instr.wellFormed Params.test (.timeRd 0 1) = false ∧ Instr.wellFormed Params.test (.softReset 0 0x5253) = true ∧
    Instr.wellFormed Params.test (.softReset 1 0x5253) = false ∧
    Instr.wellFormed Params.test (.softReset 0 0x5252) = false := by decide
theorem test_wf_if : Instr.wellFormed Params.test (.ifWr 0x0F 1 0 0xFFFF 0) = true ∧
    Instr.wellFormed Params.test (.ifWr 0x10 1 0 0 0) = false ∧ Instr.wellFormed Params.test (.ifWr 0 2 0 0 0) = false ∧
    Instr.wellFormed Params.test (.ifWr 0 1 0 0x10000 0) = false ∧ Instr.wellFormed Params.test (.ifRd 0x10 0) = false ∧
    Instr.wellFormed Params.test (.ifRd 0 1) = false := by decide
theorem test_wf_rt : Instr.wellFormed Params.test (.rtWr 0 0xF1 0 0 0) = true ∧
    Instr.wellFormed Params.test (.rtWr 0 0x02 0 0 0) = false ∧ Instr.wellFormed Params.test (.rtWr 0 0x100 0 0 0) = false ∧
    Instr.wellFormed Params.test (.rtRd 0 1) = false ∧ Instr.wellFormed Params.test (.rtClr 1 0) = false ∧
    Instr.wellFormed Params.test (.rtClr 0 1) = false ∧ Instr.wellFormed Params.test (.rtLkup 1 0 0) = false ∧
    Instr.wellFormed Params.test (.rtLkup 0 1 0) = false := by decide
theorem test_wf_nb : Instr.wellFormed Params.test (.nbWr 0xFF 1 0 0xFFFF 0) = true ∧
    Instr.wellFormed Params.test (.nbWr 0 2 0 0 0) = false ∧ Instr.wellFormed Params.test (.nbWr 0 1 0 0x10000 0) = false ∧
    Instr.wellFormed Params.test (.nbRd 0 1) = false ∧ Instr.wellFormed Params.test (.nbClr 1 0) = false ∧
    Instr.wellFormed Params.test (.nbClr 0 1) = false ∧ Instr.wellFormed Params.test (.nbLkup 1 0 0) = false ∧
    Instr.wellFormed Params.test (.nbLkup 0 1 0) = false := by decide
theorem test_wf_mt : Instr.wellFormed Params.test (.mtLkup 0 0 0xFFFF 0) = true ∧
    Instr.wellFormed Params.test (.mtRd 0 1) = false ∧ Instr.wellFormed Params.test (.mtLkup 1 0 0 0) = false ∧
    Instr.wellFormed Params.test (.mtLkup 0 1 0 0) = false ∧
    Instr.wellFormed Params.test (.mtLkup 0 0 0x10000 0) = false := by decide
theorem test_wf_bytes : Instr.wellFormed Params.test (.csum 0 []) = true ∧
    Instr.wellFormed Params.test (.csum 1 []) = false ∧
    Instr.wellFormed { Params.test with maxFrame := 2 } (.csum 0 [1, 2, 3]) = false ∧
    Instr.wellFormed Params.test (.hdrVfy 0 (List.replicate 12 0)) = true ∧
    Instr.wellFormed Params.test (.hdrVfy 0 (List.replicate 11 0)) = false ∧
    Instr.wellFormed Params.test (.hdrVfy 1 (List.replicate 12 0)) = false ∧
    Instr.wellFormed { Params.test with maxFrame := 12 } (.hdrVfy 0 (List.replicate 13 0)) = false ∧
    Instr.wellFormed Params.test (.frame 0x0F []) = true ∧ Instr.wellFormed Params.test (.frame 0x10 []) = false ∧
    Instr.wellFormed { Params.test with maxFrame := 2 } (.frame 0 [1, 2, 3]) = false := by decide

/-! ### Decoding words written out from the spec (30_encoding.md R62, section 6; 95 sections 1 and 2) -/

theorem test_decode_nop : decodesTo ⟨0x00000000, []⟩ (.nop 0 0) = true := by decide
theorem test_decode_ctrlRd : decodesTo ⟨0x01080000, []⟩ (.ctrlRd 0x08 0) = true := by decide
theorem test_decode_ctrlWr : decodesTo ⟨0x020A0000, [0x00001388]⟩ (.ctrlWr 0x0A 0 5000) = true := by decide
theorem test_decode_timeRd : decodesTo ⟨0x03000000, []⟩ (.timeRd 0 0) = true := by decide
theorem test_decode_softReset : decodesTo ⟨0x04005253, []⟩ (.softReset 0 0x5253) = true := by decide
theorem test_decode_ifWr : decodesTo ⟨0x08010001, [0x0A000001, 0x00000A00, 0x00000002]⟩
    (.ifWr 1 1 0x0A000001 0x0A00 2) = true := by decide
theorem test_decode_ifRd : decodesTo ⟨0x09030000, []⟩ (.ifRd 3 0) = true := by decide
theorem test_decode_rtWr : decodesTo ⟨0x10020021, [0x00000000, 0x00000000, 0xC0A801FE]⟩
    (.rtWr 2 0x21 0 0 0xC0A801FE) = true := by decide
theorem test_decode_rtRd : decodesTo ⟨0x110F0000, []⟩ (.rtRd 15 0) = true := by decide
theorem test_decode_rtClr : decodesTo ⟨0x12000000, []⟩ (.rtClr 0 0) = true := by decide
theorem test_decode_rtLkup : decodesTo ⟨0x13000000, [0x0A000005]⟩ (.rtLkup 0 0 0x0A000005) = true := by decide
theorem test_decode_nbWr : decodesTo ⟨0x200F0001, [0x00000000, 0x0000FFFF, 0xFFFFFFFF]⟩
    (.nbWr 15 1 0 0xFFFF 0xFFFFFFFF) = true := by decide
theorem test_decode_nbRd : decodesTo ⟨0x21020000, []⟩ (.nbRd 2 0) = true := by decide
theorem test_decode_nbClr : decodesTo ⟨0x22000000, []⟩ (.nbClr 0 0) = true := by decide
theorem test_decode_nbLkup : decodesTo ⟨0x23000000, [0x0A000009]⟩ (.nbLkup 0 0 0x0A000009) = true := by decide
theorem test_decode_mtRd : decodesTo ⟨0x30030000, []⟩ (.mtRd 3 0) = true := by decide
theorem test_decode_mtLkup : decodesTo ⟨0x31000000, [0x00000A00, 0x000000AA]⟩ (.mtLkup 0 0 0x0A00 0xAA) = true := by
  decide
/-- The pad byte is no part of the operand (95 vector K13). -/
theorem test_decode_csum : decodesTo ⟨0x40000003, [0x0001F2AB]⟩ (.csum 0 [0x00, 0x01, 0xF2]) = true := by decide
theorem test_decode_hdrVfy : decodesTo ⟨0x4100000C, [0x00010203, 0x04050607, 0x08090A0B]⟩
    (.hdrVfy 0 [0, 1, 2, 3, 4, 5, 6, 7, 8, 9, 10, 11]) = true := by decide
theorem test_decode_frame : decodesTo ⟨0x80010010, [0x0A000000, 0x00AA0A00, 0x000000BB, 0x0800BEEF]⟩
    (.frame 1 (shortFrame 0xAA 0xBB)) = true := by decide
/-- 95 vectors E2, E4, E36. -/
theorem test_decode_refuses : (match decode ⟨0x7F123456, [1, 2]⟩ with | .error .opcode => true | _ => false) = true ∧
    (match decode ⟨0x00000000, [0]⟩ with | .error .length => true | _ => false) = true ∧
    (match decode ⟨0x80000004, []⟩ with | .error .length => true | _ => false) = true := by decide
/-- 30_encoding.md section 6: the words of two descriptors. -/
theorem test_encode : encode (.rtWr 1 0x11 0x0A000000 0xFFFFFF00 0) = ⟨0x10010011, [0x0A000000, 0xFFFFFF00, 0]⟩ ∧
    encode (.csum 0 [0x00, 0x01, 0xF2]) = ⟨0x40000003, [0x0001F200]⟩ := by decide
/-- A table word: `W0` in the low 32 bits, `W1` above. -/
theorem test_table_word : decodeTableWord 64 0x0000000702080000 = some (.ctrlWr 0x08 0 7) ∧
    decodeTableWord 32 0x04005253 = some (.softReset 0 0x5253) ∧ decodeTableWord 32 0x05000000 = none := by decide
/-- The next step runs the placed word: `NOP` answers `00000000`. -/
theorem test_fetch_word : observe (fun t => t.responses.host) (step (State.reset.withFetchWord 32 0)) = some [[0]] := by
  decide

/-! ### Control operations (95 sections 2.1 and 2.2) -/

/-- E5. -/
theorem test_nop_field : answer State.reset [0x00010000] = some [[0x00000003]] := by decide
/-- Section 2.2: `CAP_FRAME`. -/
theorem test_ctrlRd_capFrame : answer State.reset [0x01050000] = some [[0x01000000, 0x000005EE]] := by decide
/-- E10: there is no `CNT_DROP[0]`. -/
theorem test_ctrlRd_gap : answer State.reset [0x01500000] = some [[0x01000004]] := by decide
/-- Section 2.2: the start sets `SWEEP_LAST` to `TIME`. -/
theorem test_ctrlWr_start : observe (fun t => (t.ctrl, t.sweepLast))
    (exec (.ctrlWr 8 0 5) { State.reset with time := 2500 }) = some (5, 2500) := by decide
/-- E47: `MODE` 1 to 0 while running. -/
theorem test_ctrlWr_busy : answer router [0x02080000, 0x00000005] = some [[0x02000006]] := by decide
/-- Section 2.2. -/
theorem test_timeRd : answer { State.reset with time := 0x1000009C4, sweepLast := 2500 } [0x03000000] =
    some [[0x03000000, 0x00000001, 0x000009C4, 0x00000000, 0x000009C4]] := by decide
/-- Section 2.2: `SWEEP_PERIOD` and `CTRL` return to their reset values. -/
theorem test_softReset : observe (fun t => (t.sweepPeriod, t.ctrl, t.ifs == State.reset.ifs))
    (exec (.softReset 0 0x5253) { router with sweepPeriod := 500 }) = some (1000, 4, true) := by decide
/-- E17: the index is checked before `MAC_HI`. -/
theorem test_ifWr_index : answer State.reset [0x08040001, 0, 0x00010000, 0] = some [[0x08000005]] := by decide
/-- CFG-R, interface 1. -/
theorem test_ifRd : answer router [0x09010000] =
    some [[0x09000000, 0x00000001, 0x0A000001, 0x00000A00, 0x00000002]] := by decide

/-! ### Route table (95 sections 1.3 and 2.3) -/

/-- The row written with `V = 0`, a holed mask and interface 9 is stored as it is. -/
theorem test_rtWr_invalid : observe (fun t => t.rtAt 8) (exec (.rtWr 8 0x90 0x0A000000 0xFF00FF00 0) State.reset) =
    some { v := false, pfx := 0x0A000000, mask := 0xFF00FF00, nextHop := 0, iface := 9 } := by decide
/-- E22. -/
theorem test_rtWr_hole : answer State.reset [0x10000001, 0x0A000000, 0xFF00FF00, 0] = some [[0x10000003]] := by
  decide
/-- CFG-R, slot 2. -/
theorem test_rtRd : answer router [0x11020000] = some [[0x11000000, 0x00000021, 0, 0, 0xC0A801FE]] := by decide
/-- E43, and the clear while stopped. -/
theorem test_rtClr : answer router [0x12000000] = some [[0x12000006]] ∧
    observe (fun t => t.rtAt 1) (exec (.rtClr 0 0) stoppedR) = some RtSlot.empty := by decide
/-- Section 1.3. -/
theorem test_rtLkup : answer router [0x13000000, 0x0A000005] =
    some [[0x13000000, 0x80010010, 0, 0x0A000000, 0xFFFFFF00]] := by decide
/-- L6: the default route. -/
theorem test_rtLkup_default : answer router [0x13000000, 0x0B000000] =
    some [[0x13000000, 0x80020020, 0xC0A801FE, 0, 0]] := by decide

/-! ### Neighbour cache (95 section 2.4) -/

/-- The last slot. -/
theorem test_nbWr : observe (fun t => t.nbAt 15) (exec (.nbWr 15 1 0 0xFFFF 0xFFFFFFFF) State.reset) =
    some { v := true, ip := 0, mac := 0xFFFFFFFFFFFF } := by decide
/-- E44. -/
theorem test_nbWr_busy : answer router [0x20000001, 0x0A000005, 0x00000A00, 0x55] = some [[0x20000006]] := by
  decide
/-- CFG-R, slot 1. -/
theorem test_nbRd : answer router [0x21010000] = some [[0x21000000, 1, 0xC0A801FE, 0x00000A00, 0x000000FE]] := by
  decide
/-- E45, and the clear while stopped. -/
theorem test_nbClr : answer router [0x22000000] = some [[0x22000006]] ∧
    observe (fun t => t.nbAt 0) (exec (.nbClr 0 0) stoppedR) = some NbSlot.empty := by decide
/-- The first and the miss of section 1.4. -/
theorem test_nbLkup : answer router [0x23000000, 0xC0A801FE] =
      some [[0x23000000, 0x80010000, 0x00000A00, 0x000000FE]] ∧
    answer router [0x23000000, 0x0A000009] = some [[0x23000000, 0, 0, 0]] := by decide

/-! ### Checksum unit (95 section 2.5) -/

/-- K7, K8. -/
theorem test_csum : answer State.reset [0x40000004, 0xFFFF0001] = some [[0x40000000, 0x0000FFFE]] ∧
    answer State.reset [0x40000003, 0x0001F200] = some [[0x40000000, 0x00000DFE]] := by decide
/-- V1, V3. -/
theorem test_hdrVfy : answer State.reset [0x41000014, 0x45000073, 0x00004000, 0x4011B861, 0xC0A80001, 0xC0A800C7] =
      some [[0x41000000, 0x8000B861, 0x0000B861]] ∧
    answer State.reset [0x41000014, 0x45000073, 0x00004000, 0x3F11B861, 0xC0A80001, 0xC0A800C7] =
      some [[0x41000000, 0x0000B961, 0x0000B861]] := by decide

/-! ### FRAME (95 sections 1.2, 1.4, 1.5) -/

/-- Section 1.2: the record in `TX[1]`. -/
theorem test_frame_routed : observe (fun t => (t.responses.host, PerIface.get t.txLog 1))
    (exec (.frame 2 (packet 2 0xDAE9 0x0A00 0x0005)) router) =
    some ([[0x80000000, 0x80000002]],
      [[0x0A, 0, 0, 0, 0, 0x55, 0x0A, 0, 0, 0, 0, 0x02, 0x08, 0x00, 0x45, 0x00, 0x00, 0x1C, 0x12, 0x34, 0x00, 0x00,
        0x01, 0x11, 0xDB, 0xE9, 0xC0, 0xA8, 0x01, 0x07, 0x0A, 0x00, 0x00, 0x05, 0x04, 0xD2, 0x16, 0x2E, 0x00, 0x08,
        0x00, 0x00]]) := by decide
/-- Section 1.5: the learn step answers nothing, the forward step of the second frame hits. -/
theorem test_frame_switched :
    observe (fun t => (t.responses.host, t.mtAt 0, t.pend.host)) (exec (.frame 0 (shortFrame 0xBB 0xAA)) switch) =
      some ([], { v := true, mac := 0x0A00000000AA, iface := 0, lastSeen := 0 },
        some { bytes := shortFrame 0xBB 0xAA, iface := 0 }) ∧
    observe (fun t => (PerIssuer.get t.responses (.rx 1), PerIface.get t.txLog 0))
      (step { setPend (.rx 1) (some { bytes := shortFrame 0xAA 0xBB, iface := 1 }) (switchAA 500) with
        schedule := [.agent (.rx 1)] }) =
      some ([[0x80000000, 0x81000001]], [shortFrame 0xAA 0xBB]) := by decide
/-- Section 1.5: the first frame floods. -/
theorem test_forward_flood : observe (fun t => (t.responses.host, t.counters.flooded, PerIface.get t.txLog 0))
    (step { setPend .host (some { bytes := shortFrame 0xBB 0xAA, iface := 0 }) (switchAA 500) with
      schedule := [.agent .host] }) = some ([[0x80000000, 0x8200000E]], 1, []) := by decide

/-! ### Learning switch diagnostics and ageing (95 section 1.6) -/

theorem test_mtRd : answer (switchAA 500) [0x30000000] = some [[0x30000000, 1, 0x0A00, 0xAA, 0, 0x1F4]] := by
  decide
theorem test_mtLkup : answer (switchAA 500) [0x31000000, 0x00000A00, 0x000000AA] =
    some [[0x31000000, 0x80000000, 0, 0x000001F4]] := by decide
/-- The sweep at 16000 evicts the entry, none is due one tick earlier. -/
theorem test_tick :
    observe (fun t => ((t.mtAt 0).v, t.sweepLast, t.counters.evict))
      (step { switchAA 15999 with sweepLast := 15000, schedule := [.timer] }) = some (false, 16000, 1) ∧
    observe (fun t => ((t.mtAt 0).v, t.sweepLast, t.counters.evict))
      (step { switchAA 15998 with sweepLast := 15000, schedule := [.timer] }) = some (true, 15000, 0) := by
  decide

/-! ### Witnesses: encoding -/

/-- The payload of the example row of `FRAME` has eleven words. -/
theorem witness_frame_words : (encode (.frame 2 (packet 2 0xDAE9 0x0A00 0x0005))).header = 0x8002002A ∧
    (encode (.frame 2 (packet 2 0xDAE9 0x0A00 0x0005))).rest.length = 11 := by decide
theorem witness_encodable : Instr.encodable (.frame 2 (packet 2 0xDAE9 0x0A00 0x0005)) = true := by decide
theorem witness_decodes_without_payload : decode ⟨0x02080000, [7]⟩ = .ok (.ctrlWr 8 0 7) ∧
    Instr.payload (.ctrlWr 8 0 7) = none := ⟨rfl, rfl⟩
theorem witness_decodes_with_payload : decode ⟨0x40000005, [0x01020304, 0x05FFFFFF]⟩ = .ok (.csum 0 [1, 2, 3, 4, 5]) ∧
    Instr.payload (.csum 0 [1, 2, 3, 4, 5]) = some [1, 2, 3, 4, 5] ∧ 4 < [1, 2, 3, 4, 5].length := ⟨rfl, rfl, by decide⟩

/-! ### Witnesses: command errors -/

/-- A legal starting point for every statement on a descriptor of `HOST`. -/
theorem witness_host_turn (d : Descriptor) : (turnOf .host d State.reset).schedule = .agent .host :: [] ∧
    (turnOf .host d State.reset).pend.get .host = none ∧ (turnOf .host d State.reset).queue.get .host = d :: [] :=
  ⟨rfl, rfl, rfl⟩
/-- 0x05 and 0xFF are the lowest and the highest illegal opcode (30_encoding.md R65). -/
theorem witness_illegal_opcode : (∀ h : Word, (turnOf .host ⟨h, []⟩ State.reset).pend.get .host = none ∧
      (turnOf .host ⟨h, []⟩ State.reset).queue.get .host = ⟨h, []⟩ :: []) ∧
    (∀ k, ((headerOp 0x05000000).toNat, k) ∉ fixedLengthRows) ∧ (headerOp 0x05000000).toNat ∉ payloadRows ∧
    (∀ k, ((headerOp 0xFF000000).toNat, k) ∉ fixedLengthRows) ∧ (headerOp 0xFF000000).toNat ∉ payloadRows := by
  refine ⟨fun h => ⟨rfl, rfl⟩, fun k hk => ?_, by decide, fun k hk => ?_, by decide⟩
  · exact absurd (List.mem_map_of_mem (f := Prod.fst) hk)
      (by decide : (headerOp 0x05000000).toNat ∉ fixedLengthRows.map Prod.fst)
  · exact absurd (List.mem_map_of_mem (f := Prod.fst) hk)
      (by decide : (headerOp 0xFF000000).toNat ∉ fixedLengthRows.map Prod.fst)
/-- One word too many, one too few, `MAX_FRAME + 1` bytes, eleven bytes (95 vectors E4, E26, E36, E33, E35). -/
theorem witness_wrong_length : ((headerOp 0x00000000).toNat, 1) ∈ fixedLengthRows ∧ 1 + [(0 : Word)].length ≠ 1 ∧
    ((headerOp 0x10000001).toNat, 4) ∈ fixedLengthRows ∧ 1 + [(0 : Word), 0].length ≠ 4 ∧
    (headerOp 0x80000004).toNat ∈ payloadRows ∧ 1 + ([] : List Word).length ≠ 1 + ((headerB 0x80000004).toNat + 3) / 4 ∧
    (headerOp 0x400005EF).toNat ∈ payloadRows ∧ State.reset.params.maxFrame + 1 = (headerB 0x400005EF).toNat ∧
    (headerOp 0x4100000B).toNat = 0x41 ∧ (headerB 0x4100000B).toNat = 11 := by decide
/-- The lowest reserved bit of three rows and the last byte counts in range. -/
theorem witness_reserved_bits :
    (encode (.ifWr 0x10 1 0 0 0)).header &&& (fixedBits .ifWr).1 ≠ (fixedBits .ifWr).2 ∧
    (encode (.rtWr 0 2 0 0 0)).header &&& (fixedBits .rtWr).1 ≠ (fixedBits .rtWr).2 ∧
    (encode (.softReset 0 0x5252)).header &&& (fixedBits .softReset).1 ≠ (fixedBits .softReset).2 ∧
    lengthInRange Params.test (.ifWr 0x10 1 0 0 0) ∧
    lengthInRange Params.test (.hdrVfy 1 (List.replicate 12 0)) ∧
    lengthInRange { Params.test with maxFrame := 64 } (.frame 0x10 (List.replicate 64 0)) ∧
    Instr.encodable (.frame 0x10 (List.replicate 64 0)) = true := by
  refine ⟨by decide, by decide, by decide, trivial, ⟨by decide, by decide⟩, ?_, by decide⟩
  show (List.replicate 64 (0 : Byte)).length ≤ 64
  decide
theorem witness_failed_descriptor : observe (fun t => t.responses) (exec (.nop 1 0) State.reset) =
    some (State.reset.responses.set .host (State.reset.responses.get .host ++ [[0x00000003]])) ∧
    (0x00000003 : Word).extractLsb' 0 8 ≠ 0 := by decide

/-! ### Witnesses: invariants -/

/-- A running switch with a learned address meets the invariant. -/
theorem witness_inv : (switchAA 500).Inv where
  legal := by decide
  rtLength := by decide
  nbLength := by decide
  mtLength := by decide
  ctrlZero := by decide
  statusZero := by decide
  routes := fun j hv => by
    have hj : (switchAA 500).rtAt j = RtSlot.empty := List.getD_replicate_eq ..
    rw [hj] at hv
    exact absurd hv (by decide)
  absentIfs := by decide
  macIfaces := fun j hv => by
    have hj := mt_valid_lt _ hv
    revert hv
    revert j
    decide
  macUnique := fun j k hj hk _ => by
    have h : ∀ j < 4, ((switchAA 500).mtAt j).v = true → j = 0 := by decide
    rw [h j (mt_valid_lt _ hj) hj, h k (mt_valid_lt _ hk) hk]
  pendFrames := fun A p hp => by
    have : (switchAA 500).pend.get A = none := by
      cases A with
      | host => rfl
      | rx i => exact PerIface.get_replicate ..
    rw [this] at hp
    cases hp
  pendOwn := fun i p hp => by
    rw [show (switchAA 500).pend.get (.rx i) = none from PerIface.get_replicate ..] at hp
    cases hp
  absentTx := fun e _ => PerIface.get_replicate ..
/-- From that state a frame of `RX[3]` and a tick both step. -/
theorem witness_steps_with_inv : observe (fun t => t.mt.length)
      (step (turnOf (.rx 3) (encode (.frame 3 (shortFrame 0xBB 0xAA))) (switchAA 500))) = some 4 ∧
    observe (fun t => t.time) (step { switchAA 500 with schedule := [.timer] }) = some 501 := by decide
theorem witness_mac_unique : (switchAA 500).mt.length = (switchAA 500).params.mtDepth ∧ (switchAA 500).MacUnique :=
  ⟨rfl, witness_inv.macUnique⟩
/-- Entries seen now and earlier, and the last time before the wrap. -/
theorem witness_last_seen : (∀ j, ((switchAA 0xFFFFFFFFFFFFFFFE).mtAt j).v = true →
      ((switchAA 0xFFFFFFFFFFFFFFFE).mtAt j).lastSeen.toNat ≤ (switchAA 0xFFFFFFFFFFFFFFFE).time.toNat) ∧
    (switchAA 0xFFFFFFFFFFFFFFFE).time.toNat + 1 < 2 ^ 64 ∧
    observe (fun t => t.time) (step { switchAA 0xFFFFFFFFFFFFFFFE with schedule := [.timer] }) =
      some 0xFFFFFFFFFFFFFFFF :=
  ⟨fun j hv => by
    have hj := mt_valid_lt _ hv
    revert hv
    revert j
    decide, by decide, by decide⟩
/-- A tick, a hardware reset, a keyed reset, and a step that is none of them: `SOFT_RESET` with a wrong key. -/
theorem witness_time : { router with schedule := [.timer] }.schedule = .timer :: [] ∧
    { router with schedule := [.reset] }.hardResetNext ∧
    (turnOf .host ⟨0x04005253, []⟩ router).keyedResetNext ∧
    (¬ (∃ rest, (turnOf .host ⟨0x04005252, []⟩ router).schedule = .timer :: rest) ∧
      ¬ (turnOf .host ⟨0x04005252, []⟩ router).hardResetNext ∧
      ¬ (turnOf .host ⟨0x04005252, []⟩ router).keyedResetNext ∧
      observe (fun t => t.time) (step (turnOf .host ⟨0x04005252, []⟩ { router with time := 7 })) = some 7) :=
  ⟨rfl, ⟨[], rfl⟩, ⟨[], [], rfl, rfl, rfl⟩, (by rintro ⟨_, h⟩; cases h), (by rintro ⟨_, h⟩; cases h), (by
    rintro ⟨_, ds, _, _, hq⟩
    have hd : (turnOf .host ⟨0x04005252, []⟩ router).queue.get .host = [⟨0x04005252, []⟩] := rfl
    rw [hd, List.cons.injEq] at hq
    exact absurd hq.1 (by decide)), by decide⟩
/-- The hypotheses of the statement on running tables. -/
theorem witness_running : router.ctrl.getLsbD 0 = true ∧ ¬ { router with schedule := [.timer] }.hardResetNext ∧
    ¬ { router with schedule := [.timer] }.softResetNext ∧
    observe (fun t => t.rt.length) (step { router with schedule := [.timer] }) = some 16 :=
  ⟨by decide, (by rintro ⟨_, h⟩; cases h), (by rintro ⟨_, _, _, h, _⟩; cases h), by decide⟩
theorem witness_rx_step : (turnOf (.rx 1) (encode (.frame 1 [])) switch).schedule = .agent (.rx 1) :: [] ∧
    observe (fun t => t.responses.get (.rx 1)) (step (turnOf (.rx 1) (encode (.frame 1 [])) switch)) =
      some [[0x80000000, 0x07000000]] := by decide
/-- Both ends of the statement on completion: a step, and the one stop. -/
theorem witness_stop : observe (fun t => t.status) (step (turnOf .host (encode (.frame 4 [])) switch)) = some 2 ∧
    (match step (turnOf (.rx 1) (encode (.frame 2 [])) switch) with | .fault .rxDiscipline => true | _ => false) =
      true := by decide
theorem witness_reads_only : readsOnly (.timeRd 0 0) = true := rfl
/-- A frame of `HOST` that ends with status `OK`, no `SOFT_RESET` next, and a tick. -/
theorem witness_verdict : (turnOf .host (encode (.frame 0 [])) switch).schedule = .agent .host :: [] ∧
    ¬ (turnOf .host (encode (.frame 0 [])) switch).softResetNext ∧
    observe (fun t => (t.frameTotal, okFrames (t.responses.get .host)))
      (step (turnOf .host (encode (.frame 0 [])) switch)) = some (1, 1) ∧
    observe (fun t => t.frameTotal) (step { switch with schedule := [.timer] }) = some 0 :=
  ⟨rfl, by
    rintro ⟨_, d, ds, _, _, hq, ho⟩
    have hd : (turnOf .host (encode (.frame 0 [])) switch).queue.get .host = [encode (.frame 0 [])] := rfl
    rw [hd] at hq
    cases hq
    exact absurd ho (by decide), by decide, by decide⟩

/-! ### Witnesses: steps -/

theorem witness_host_step : (turnOf .host (encode (.rtClr 0 0)) router).schedule = .agent .host :: [] ∧
    (turnOf .host (encode (.rtClr 0 0)) router).pend.get .host = none ∧
    (turnOf .host (encode (.rtClr 0 0)) router).queue.get .host = encode (.rtClr 0 0) :: [] ∧
    decode (encode (.rtClr 0 0)) = .ok (.rtClr 0 0) := ⟨rfl, rfl, rfl, rfl⟩
/-- The highest interface, the longest frame of a small engine, and a frame whose padding is not 0. -/
theorem witness_rx_frame : (∀ d, (turnOf (.rx 3) d (smallFrames switch)).schedule = .agent (.rx 3) :: [] ∧
      (turnOf (.rx 3) d (smallFrames switch)).pend.get (.rx 3) = none ∧
      (turnOf (.rx 3) d (smallFrames switch)).queue.get (.rx 3) = d :: []) ∧
    decodesTo (encode (.frame 3 (List.replicate 64 0))) (.frame ((3 : IfaceId).setWidth 8) (List.replicate 64 0)) = true ∧
    (List.replicate 64 (0 : Byte)).length = (smallFrames switch).params.maxFrame ∧
    decodesTo ⟨0x80030005, [0x01020304, 0x05FFFFFF]⟩ (.frame ((3 : IfaceId).setWidth 8) [1, 2, 3, 4, 5]) = true ∧
    (3 : IfaceId).toNat < (smallFrames switch).params.nIf :=
  ⟨fun _ => ⟨rfl, rfl, rfl⟩, by decide, by decide, by decide, by decide⟩
theorem witness_idle : State.reset.schedule = [] ∧
    { State.reset with schedule := [.agent (.rx 15)] }.schedule = .agent (.rx 15) :: [] ∧
    { State.reset with schedule := [.agent (.rx 15)] }.pend.get (.rx 15) = none ∧
    { State.reset with schedule := [.agent (.rx 15)] }.queue.get (.rx 15) = [] := by decide
theorem witness_hardware_reset : { router with schedule := [.reset] }.schedule = .reset :: [] := rfl

/-! ### Witnesses: control operations -/

theorem witness_softReset_key : ((0 : Byte) ≠ 0 ∨ (0x5252 : Half) ≠ 0x5253) ∧ ((1 : Byte) ≠ 0 ∨ (0x5253 : Half) ≠ 0x5253) := by
  decide
/-- The numbers next to the register space's ends (95 vectors E8 to E11). -/
theorem witness_no_register (s : State) : (∀ r ∈ registerSpace s, r.1 ≠ (0x06 : Byte)) ∧
    (∀ r ∈ registerSpace s, r.1 ≠ (0x0C : Byte)) ∧ (∀ r ∈ registerSpace s, r.1 ≠ (0x50 : Byte)) ∧
    ∀ r ∈ registerSpace s, r.1 ≠ (0x5B : Byte) := by simp [registerSpace]
/-- Each clause of a write of `CTRL`, at 15 and 16. -/
theorem witness_ctrlWr : 16 ≤ (16 : Word).toNat ∧
    ((15 : Word).toNat < 16 ∧ router.ctrl.getLsbD 0 = true ∧ (15 : Word).getLsbD 3 ≠ router.ctrl.getLsbD 3) ∧
    ((2 : Word).toNat < 16 ∧ (2 : Word).getLsbD 1 = router.ctrl.getLsbD 1 ∧ (2 : Word).getLsbD 3 = router.ctrl.getLsbD 3) ∧
    (stoppedR.ctrl.getLsbD 0 = false ∧ (14 : Word).getLsbD 0 = false) ∧
    (stoppedR.ctrl.getLsbD 0 = false ∧ (15 : Word).getLsbD 0 = true) := by decide
theorem witness_status : 4 ≤ (4 : Word).toNat ∧ (3 : Word).toNat < 4 := by decide
theorem witness_read_only : ∀ a ∈ ([0x00, 0x07, 0x0C, 0x40, 0xFF] : List Byte), a ∉ ([0x08, 0x09, 0x0A, 0x0B] : List Byte) := by
  decide
/-- Interfaces 4 and 3, `MAC_HI` 65536 and 65535, running and stopped. -/
theorem witness_ifWr : router.params.nIf ≤ (4 : IfaceId).toNat ∧
    ((3 : IfaceId).toNat < router.params.nIf ∧ 65536 ≤ (0x10000 : Word).toNat) ∧
    ((3 : IfaceId).toNat < router.params.nIf ∧ (0xFFFF : Word).toNat < 65536 ∧ router.ctrl.getLsbD 0 = true) ∧
    ((3 : IfaceId).toNat < stoppedR.params.nIf ∧ (0xFFFF : Word).toNat < 65536 ∧ stoppedR.ctrl.getLsbD 0 = false) := by
  decide

/-! ### Witnesses: tables -/

/-- Slots 16 and 15, an illegal and a legal entry, running and stopped. -/
theorem witness_rtWr : router.params.rtDepth ≤ (16 : Byte).toNat ∧
    ((15 : Byte).toNat < router.params.rtDepth ∧
      ¬ (true = true → (∃ L ≤ 32, (0xFFFFFF00 : Word) = maskOf L) ∧ (4 : IfaceId).toNat < router.params.nIf)) ∧
    ((15 : Byte).toNat < router.params.rtDepth ∧
      (true = true → (∃ L ≤ 32, (0xFFFFFFFF : Word) = maskOf L) ∧ (3 : IfaceId).toNat < router.params.nIf) ∧
      router.ctrl.getLsbD 0 = true) ∧
    ((15 : Byte).toNat < stoppedR.params.rtDepth ∧
      (true = true → (∃ L ≤ 32, (0xFFFFFFFF : Word) = maskOf L) ∧ (3 : IfaceId).toNat < stoppedR.params.nIf) ∧
      stoppedR.ctrl.getLsbD 0 = false ∧ stoppedR.rt.length = stoppedR.params.rtDepth) :=
  ⟨by decide, ⟨by decide, fun h => absurd (h rfl).2 (by decide)⟩,
   ⟨by decide, fun _ => ⟨⟨32, by decide, by decide⟩, by decide⟩, by decide⟩,
   ⟨by decide, fun _ => ⟨⟨32, by decide, by decide⟩, by decide⟩, by decide, by decide⟩⟩
/-- A tie-free hit, a miss, and the table length of the scan. -/
theorem witness_lpm : router.lpm 0x0A000005 = some 1 ∧ State.reset.lpm 0x0A000005 = none ∧
    router.rt.length = router.params.rtDepth := by decide
theorem witness_mask_range : (0 : Nat) ≤ 32 ∧ maskOf 32 = 0xFFFFFFFF ∧ maskOf 0 = 0 := by decide
theorem witness_nbWr : router.params.nbDepth ≤ (16 : Byte).toNat ∧
    ((15 : Byte).toNat < router.params.nbDepth ∧ 65536 ≤ (0x10000 : Word).toNat) ∧
    ((15 : Byte).toNat < router.params.nbDepth ∧ (0xFFFF : Word).toNat < 65536 ∧ router.ctrl.getLsbD 0 = true) ∧
    ((15 : Byte).toNat < stoppedR.params.nbDepth ∧ (0xFFFF : Word).toNat < 65536 ∧ stoppedR.ctrl.getLsbD 0 = false ∧
      stoppedR.nb.length = stoppedR.params.nbDepth) := by decide
theorem witness_clears : router.ctrl.getLsbD 0 = true ∧ stoppedR.ctrl.getLsbD 0 = false := by decide
theorem witness_nbLkup : router.nbLookup 0x0A000005 = some 0 ∧ router.nbLookup 0x0A000009 = none := by decide

/-! ### Witnesses: checksum -/

theorem witness_checksum : List.Perm [(1 : Half), 2] [2, 1] ∧ [(1 : Byte)].length % 2 = 1 ∧ ([] : List Byte).length % 2 = 0 ∧
    ([(0 : Byte), 0].length % 2 = 0 ∧ 0 % 2 = 0 ∧ 0 + 1 < [(0 : Byte), 0].length ∧ byteAt [0, 0] 0 = 0 ∧
      byteAt [0, 0] 1 = 0) := ⟨List.Perm.swap .., by decide⟩
theorem witness_restamp : 12 ≤ (List.replicate 12 (0 : Byte)).length := by decide
/-- A valid header of the shortest length, 95 vector V9 with its computed checksum, and a changed last byte. -/
theorem witness_one_byte : 12 ≤ (restamp (List.replicate 12 0)).length ∧ 11 < (restamp (List.replicate 12 0)).length ∧
    hdrValid (restamp (List.replicate 12 0)) = true ∧ (0 : Byte) ≠ byteAt (restamp (List.replicate 12 0)) 11 := by decide
/-- 65 and 64 bytes for `MAX_FRAME` 64, 11 and 12 bytes of a header. -/
theorem witness_byte_counts : (smallFrames State.reset).params.maxFrame < (List.replicate 65 (0 : Byte)).length ∧
    (List.replicate 64 (0 : Byte)).length ≤ (smallFrames State.reset).params.maxFrame ∧
    (List.replicate 11 (0 : Byte)).length < 12 ∧ (12 ≤ (List.replicate 12 (0 : Byte)).length ∧
      (List.replicate 12 (0 : Byte)).length ≤ (smallFrames State.reset).params.maxFrame) := by decide

/-! ### Witnesses: frames -/

/-- `FRAME 2, PKT(...)` passes the dispatch of CFG-R. -/
theorem witness_dispatched (ttl : Byte) (check hi lo : Half) : Dispatched 2 (packet ttl check hi lo) router :=
  ⟨by decide, by decide, by simp [packet, bytesOf16]; decide, by decide, by decide, by simp [packet, bytesOf16]⟩
/-- Each refusal and early drop: 65 bytes, ids 16, 15 and 4, stopped, an interface that is down, 13 bytes. -/
theorem witness_frame_checks : (smallFrames router).params.maxFrame < (List.replicate 65 (0 : Byte)).length ∧
    ((List.replicate 64 (0 : Byte)).length ≤ (smallFrames router).params.maxFrame ∧ 16 ≤ (16 : Byte).toNat) ∧
    (∀ a ∈ ([4, 15] : List Byte), (List.replicate 64 (0 : Byte)).length ≤ (smallFrames router).params.maxFrame ∧
      a.toNat < 16 ∧ (smallFrames router).params.nIf ≤ a.toNat) ∧
    ((3 : Byte).toNat < stoppedR.params.nIf ∧ stoppedR.ctrl.getLsbD 0 = false) ∧
    ((3 : Byte).toNat < router.params.nIf ∧ router.ctrl.getLsbD 0 = true ∧
      (router.ifAt ((3 : Byte).setWidth 4)).en = false) ∧
    ((2 : Byte).toNat < router.params.nIf ∧ router.ctrl.getLsbD 0 = true ∧
      (router.ifAt ((2 : Byte).setWidth 4)).en = true ∧ (List.replicate 13 (0 : Byte)).length < 14) := by decide
/-- Type and presence: 14 zero bytes, a 16-byte IPv4 frame, and `IHL` 4. -/
theorem witness_router_type : router.ctrl.getLsbD 1 = true ∧
    (Dispatched 2 (List.replicate 14 0) router ∧ read16 (List.replicate 14 (0 : Byte)) 12 ≠ 0x0800) ∧
    (Dispatched 2 (shortFrame 0xAA 0xBB) router ∧ read16 (shortFrame 0xAA 0xBB) 12 = 0x0800 ∧
      ¬ HeaderPresent (shortFrame 0xAA 0xBB)) ∧
    ¬ HeaderPresent ((packet 2 0xDAE9 0x0A00 5).set 14 0x44) :=
  ⟨by decide, ⟨⟨by decide, by decide, by decide, by decide, by decide, by decide⟩, by decide⟩,
   ⟨⟨by decide, by decide, by decide, by decide, by decide, by decide⟩, by decide, fun h => absurd h.1 (by decide)⟩,
   fun h => absurd h.2.1 (by decide)⟩
/-- The hypotheses on the header of a packet that the later drops share. -/
def headerGood (F : Frame) : Bool :=
  read16 F 12 == 0x0800 && decide (34 ≤ F.length) && (byteAt F 14).toNat % 16 == 5 &&
  read16 F 24 == hdrCksum ((F.drop 14).take (4 * ((byteAt F 14).toNat % 16)))
/-- Checksum, TTL 1, and with TTL 2 an own address, no route, no neighbour (95 sections 1.1 to 1.4, 1.8). -/
theorem witness_router_drops : HeaderPresent (packet 3 0xDAE9 0x0A00 5) ∧
    read16 (packet 3 0xDAE9 0x0A00 5) 12 = 0x0800 ∧ headerGood (packet 3 0xDAE9 0x0A00 5) = false ∧
    (headerGood (packet 1 0xDBE9 0x0A00 5) = true ∧ (byteAt (packet 1 0xDBE9 0x0A00 5) 22).toNat ≤ 1) ∧
    (headerGood (packet 2 0xDAEC 0x0A01 1) = true ∧ 2 ≤ (byteAt (packet 2 0xDAEC 0x0A01 1) 22).toNat ∧
      SelfDestined (packet 2 0xDAEC 0x0A01 1) router) ∧
    (headerGood (packet 2 0xD9ED 0x0B00 1) = true ∧ ¬ SelfDestined (packet 2 0xD9ED 0x0B00 1) routerNoDefault ∧
      routerNoDefault.lpm (read32 (packet 2 0xD9ED 0x0B00 1) 30) = none) ∧
    (headerGood (packet 0x40 0x9CE5 0x0A00 9) = true ∧ ¬ SelfDestined (packet 0x40 0x9CE5 0x0A00 9) router ∧
      router.lpm (read32 (packet 0x40 0x9CE5 0x0A00 9) 30) = some 1 ∧
      router.nbLookup (router.nbKey 1 (read32 (packet 0x40 0x9CE5 0x0A00 9) 30)) = none) :=
  ⟨⟨by decide, by decide, by decide⟩, by decide, by decide, by decide,
   ⟨by decide, by decide, ⟨0, by decide, by decide, by decide⟩⟩,
   ⟨by decide, (fun ⟨e, h⟩ => by revert h; revert e; decide), by decide⟩,
   ⟨by decide, (fun ⟨e, h⟩ => by revert h; revert e; decide), by decide, by decide⟩⟩
/-- The frame of 95 section 1.2 with TTL 2 passes every step. -/
theorem witness_routed : Dispatched 2 (packet 2 0xDAE9 0x0A00 5) router ∧ router.ctrl.getLsbD 1 = true ∧
    read16 (packet 2 0xDAE9 0x0A00 5) 12 = 0x0800 ∧ HeaderPresent (packet 2 0xDAE9 0x0A00 5) ∧
    read16 (packet 2 0xDAE9 0x0A00 5) 24 =
      hdrCksum (((packet 2 0xDAE9 0x0A00 5).drop 14).take (4 * ((byteAt (packet 2 0xDAE9 0x0A00 5) 14).toNat % 16))) ∧
    2 ≤ (byteAt (packet 2 0xDAE9 0x0A00 5) 22).toNat ∧ ¬ SelfDestined (packet 2 0xDAE9 0x0A00 5) router ∧
    router.lpm (read32 (packet 2 0xDAE9 0x0A00 5) 30) = some 1 ∧
    router.nbLookup (router.nbKey 1 (read32 (packet 2 0xDAE9 0x0A00 5) 30)) = some 0 :=
  ⟨witness_dispatched .., by decide, by decide, ⟨by decide, by decide, by decide⟩, by decide, by decide,
   fun ⟨e, h⟩ => by revert h; revert e; decide, by decide, by decide⟩
/-- Two frames that differ in the last byte only. -/
theorem witness_payload : (packet 2 0xDAE9 0x0A00 5).length = ((packet 2 0xDAE9 0x0A00 5).set 41 1).length ∧
    (∀ k, k < max 34 (14 + 4 * ((byteAt (packet 2 0xDAE9 0x0A00 5) 14).toNat % 16)) →
      byteAt (packet 2 0xDAE9 0x0A00 5) k = byteAt ((packet 2 0xDAE9 0x0A00 5).set 41 1) k) ∧
    observe (fun t => t.counters.routed) (exec (.frame 2 ((packet 2 0xDAE9 0x0A00 5).set 41 1)) router) = some 1 := by
  decide

/-! ### Witnesses: switch and time -/

/-- Refresh, allocation and overflow. -/
theorem witness_learn : (∀ s ∈ [switchAA 500, switch, switchFull], s.ctrl.getLsbD 1 = false) ∧
    (Dispatched 3 (shortFrame 0xBB 0xAA) (switchAA 500) ∧
      (switchAA 500).mtFind (read48 (shortFrame 0xBB 0xAA) 6) = some 0) ∧
    (Dispatched 3 (shortFrame 0xBB 0xAA) switch ∧ switch.mtFind (read48 (shortFrame 0xBB 0xAA) 6) = none ∧
      switch.mtFree = some 0) ∧
    (Dispatched 3 (shortFrame 0xBB 0xAA) switchFull ∧ switchFull.mtFind (read48 (shortFrame 0xBB 0xAA) 6) = none ∧
      switchFull.mtFree = none) :=
  ⟨by decide, ⟨⟨by decide, by decide, by decide, by decide, by decide, by decide⟩, by decide⟩,
   ⟨⟨by decide, by decide, by decide, by decide, by decide, by decide⟩, by decide⟩,
   ⟨⟨by decide, by decide, by decide, by decide, by decide, by decide⟩, by decide⟩⟩
/-- Learning on a state with the invariant, and the next state. -/
theorem witness_learned : (switchAA 500).Inv ∧ Dispatched 3 (shortFrame 0xAA 0xBB) (switchAA 500) ∧
    observe (fun t => t.mtFind (read48 (shortFrame 0xAA 0xBB) 6))
      (exec (.frame 3 (shortFrame 0xAA 0xBB)) (switchAA 500)) = some (some 1) :=
  ⟨witness_inv, ⟨by decide, by decide, by decide, by decide, by decide, by decide⟩, by decide⟩
/-- A full latch at the agent's turn: after a stop, in router mode, with a known and an unknown destination. -/
theorem witness_forward : (∀ s ∈ [latched stoppedR, latched router, latched (switchAA 500), latched switch],
      s.schedule = .agent (.rx 1) :: [] ∧
      s.pend.get (.rx 1) = some { bytes := shortFrame 0xAA 0xBB, iface := 1 }) ∧
    (latched stoppedR).ctrl.getLsbD 0 = false ∧ (latched router).ctrl.getLsbD 1 = true ∧
    ((latched (switchAA 500)).ctrl.getLsbD 0 = true ∧ (latched (switchAA 500)).ctrl.getLsbD 1 = false ∧
      (latched (switchAA 500)).mtFind (read48 (shortFrame 0xAA 0xBB) 0) = some 0) ∧
    ((latched switch).ctrl.getLsbD 0 = true ∧ (latched switch).ctrl.getLsbD 1 = false ∧
      (latched switch).mtFind (read48 (shortFrame 0xAA 0xBB) 0) = none) := by decide
theorem witness_mtLkup : 65536 ≤ (0x10000 : Word).toNat ∧ (0x0A00 : Word).toNat < 65536 ∧
    (switchAA 500).mtFind (((0x0A00 : Word).setWidth 16 : Half) ++ (0xAA : Word)) = some 0 ∧
    switch.mtFind (((0x0A00 : Word).setWidth 16 : Half) ++ (0xAA : Word)) = none := by decide
/-- A tick at which a sweep is due, and one a tick too early. -/
theorem witness_tick : (∀ s ∈ [{ switchAA 999 with schedule := [.timer] }, { switchAA 998 with schedule := [.timer] }],
      s.schedule = .timer :: [] ∧ s.ctrl.getLsbD 0 = true ∧ s.ctrl.getLsbD 2 = true) ∧
    (switchAA 999).sweepPeriod.toNat ≤ ((switchAA 999).time + 1 - (switchAA 999).sweepLast).toNat ∧
    ¬ (switchAA 998).sweepPeriod.toNat ≤ ((switchAA 998).time + 1 - (switchAA 998).sweepLast).toNat := by decide
/-- The hypotheses of the lifetime statement for every number of ticks; 15000 is the last at which the entry
must live, 16000 the first at which it must be gone. -/
theorem witness_lifetime : (∀ n, (ticking n).schedule = List.replicate n .timer ++ []) ∧
    (∀ n, (ticking n).ctrl.getLsbD 0 = true ∧ (ticking n).ctrl.getLsbD 2 = true ∧ ((ticking n).mtAt 0).v = true ∧
      ((ticking n).mtAt 0).lastSeen.toNat ≤ (ticking n).time.toNat ∧
      (ticking n).sweepLast.toNat ≤ (ticking n).time.toNat) ∧
    (ticking 15000).time.toNat + 15000 ≤ ((ticking 15000).mtAt 0).lastSeen.toNat + (ticking 15000).ageLimit.toNat ∧
    (max (ticking 16000).sweepPeriod.toNat 1 ≤ 16000 ∧
      ((ticking 16000).mtAt 0).lastSeen.toNat + (ticking 16000).ageLimit.toNat + max (ticking 16000).sweepPeriod.toNat 1 ≤
        (ticking 16000).time.toNat + 16000 ∧ (ticking 16000).time.toNat + 16000 < 2 ^ 64) :=
  ⟨fun n => (List.append_nil _).symm, fun n => by
    exact ⟨(by decide : (switchAA 500).ctrl.getLsbD 0 = true), (by decide : (switchAA 500).ctrl.getLsbD 2 = true),
      (by decide : ((switchAA 500).mtAt 0).v = true),
      (by decide : ((switchAA 500).mtAt 0).lastSeen.toNat ≤ (switchAA 500).time.toNat),
      (by decide : (switchAA 500).sweepLast.toNat ≤ (switchAA 500).time.toNat)⟩,
   (by decide : (switchAA 500).time.toNat + 15000 ≤
     ((switchAA 500).mtAt 0).lastSeen.toNat + (switchAA 500).ageLimit.toNat),
   (by decide : max (switchAA 500).sweepPeriod.toNat 1 ≤ 16000),
   (by decide : ((switchAA 500).mtAt 0).lastSeen.toNat + (switchAA 500).ageLimit.toNat +
     max (switchAA 500).sweepPeriod.toNat 1 ≤ (switchAA 500).time.toNat + 16000),
   (by decide : (switchAA 500).time.toNat + 16000 < 2 ^ 64)⟩

end Sys2Proof.Tests
end

/-! ## A turn of an agent runs the instruction its next descriptor decodes to (00_scope.md R2, R4) -/

namespace Sys2Proof

/-! ### What a successful decode says -/

/-- A descriptor that decodes names an opcode, has the word count of that opcode, and is read by `assemble`
(30_encoding.md R66, checks 1 and 2). -/
theorem decode_ok {d : Descriptor} {i : Instr} (h : decode d = .ok i) :
    ∃ op, Opcode.ofByte (headerOp d.header) = some op ∧
      d.rest.length = op.operandWords (headerB d.header) ∧
      assemble op (headerA d.header) (headerB d.header) d.rest = i := by
  unfold decode at h
  split at h
  · cases h
  · next op hop =>
    split at h
    · next hlen => exact ⟨op, hop, hlen, Except.ok.inj h⟩
    · cases h

/-- Each constructor of `Instr` is assembled from its own opcode. -/
@[simp] theorem opcode_assemble (op : Opcode) (a : Byte) (b : Half) (ws : List Word) :
    (assemble op a b ws).opcode = op := by
  cases op <;> rfl

/-- Every payload word carries four bytes (20_memory.md R43). -/
theorem length_flatMap_wordBytes (ws : List Word) : (ws.flatMap wordBytes).length = 4 * ws.length := by
  induction ws with
  | nil => rfl
  | cons w ws ih =>
    simp only [List.flatMap_cons, List.length_append, ih, wordBytes, List.length_cons, List.length_nil]
    omega

/-- The word count of R43 leaves room for all `n` bytes, so unpacking yields exactly `n` of them. -/
theorem length_unpackBytes {ws : List Word} {n : Nat} (h : ws.length = payloadWords n) :
    (unpackBytes ws n).length = n := by
  simp only [unpackBytes, List.length_take, length_flatMap_wordBytes, h, payloadWords]
  omega

/-- A descriptor that decodes to a `FRAME`: opcode byte, field `a`, word count and byte count. The padding of the
last word plays no part (20_memory.md R43). -/
theorem decode_frame {d : Descriptor} {a : Byte} {F : Frame} (h : decode d = .ok (.frame a F)) :
    headerOp d.header = Opcode.frame.byte ∧ headerA d.header = a ∧
      d.rest.length = Opcode.frame.operandWords (headerB d.header) ∧ (headerB d.header).toNat = F.length := by
  obtain ⟨op, hop, hlen, hasm⟩ := decode_ok h
  obtain rfl : op = .frame := by
    rw [← opcode_assemble op (headerA d.header) (headerB d.header) d.rest, hasm]
    rfl
  obtain ⟨ha, hF⟩ := Instr.frame.inj hasm
  exact ⟨(Opcode.byte_of_ofByte hop).symm, ha, hlen, by rw [← hF, length_unpackBytes hlen]⟩

namespace Machine

/-- A descriptor that decodes to a `FRAME` of interface `j` within `MAX_FRAME` bytes is one `RX[j]` may issue
(00_scope.md R4). -/
theorem mayIssue_rx_of_decode {p : Params} {j : IfaceId} {d : Descriptor} {F : Frame}
    (hd : decode d = .ok (.frame (j.setWidth 8) F)) (hj : j.toNat < p.nIf) (hF : F.length ≤ p.maxFrame) :
    mayIssue p (.rx j) d = true := by
  obtain ⟨hop, ha, hlen, hb⟩ := decode_frame hd
  simp [mayIssue, hop, ha, hlen, hb, hj, hF]

/-- The turn of an agent with nothing pending runs what its next descriptor decodes to, if the agent may issue
it. -/
theorem step_of_decode {s : State} {A : Issuer} {rest : List Turn} {d : Descriptor} {ds : List Descriptor} {i : Instr}
    (hs : s.schedule = .agent A :: rest) (hp : s.pend.get A = none) (hq : s.queue.get A = d :: ds)
    (hm : mayIssue s.params A d = true) (hd : decode d = .ok i) :
    step s = exec i { s with schedule := rest, queue := s.queue.set A ds, agent := A } := by
  simp only [step, nextStep, hs, runTurn, agentTurn, hp, hq, hm, issue, hd, if_true]

/-- Settles O22: `HOST` may issue every descriptor. -/
theorem hostStepRunsDecodedInstruction : Obligations.HostStepRunsDecodedInstruction := by
  intro s rest d ds i hs hp hq hd
  exact step_of_decode hs hp hq rfl hd

/-- Settles O23: the decoded `FRAME` meets the discipline of `RX[j]`. -/
theorem rxStepRunsItsFrame : Obligations.RxStepRunsItsFrame := by
  intro s rest d ds j F hs hp hq hd hj hF
  exact step_of_decode hs hp hq (mayIssue_rx_of_decode hd hj hF) hd

end Machine
end Sys2Proof

/-! ## The logs only grow, at the end (00_scope.md R5) -/

namespace Sys2Proof.Machine

@[simp] theorem mtLearn_responses (m : LinkAddr) (i : IfaceId) (s : State) :
    (mtLearn m i s).responses = s.responses := by
  rw [mtLearn_frame]

@[simp] theorem mtLearn_txLog (m : LinkAddr) (i : IfaceId) (s : State) : (mtLearn m i s).txLog = s.txLog := by
  rw [mtLearn_frame]

/-- From `s` to `t`, records and frames are only appended to the logs. -/
def LogsGrow (s t : State) : Prop :=
  (∀ A, s.responses.get A <+: t.responses.get A) ∧
  (∀ e : IfaceId, PerIface.get s.txLog e <+: PerIface.get t.txLog e)

namespace LogsGrow

/-! ### The relation -/

/-- An update that writes neither kind of log. -/
theorem of_eq {s t : State} (hr : t.responses = s.responses) (ht : t.txLog = s.txLog) : LogsGrow s t :=
  ⟨fun A => by rw [hr], fun e => by rw [ht]⟩

theorem refl (s : State) : LogsGrow s s := of_eq rfl rfl

theorem trans {s t u : State} (hst : LogsGrow s t) (htu : LogsGrow t u) : LogsGrow s u :=
  ⟨fun A => (hst.1 A).trans (htu.1 A), fun e => (hst.2 e).trans (htu.2 e)⟩

/-- A first update that writes neither kind of log may be left out. -/
theorem after_eq {s s' t : State} (h : LogsGrow s' t) (hr : s'.responses = s.responses) (ht : s'.txLog = s.txLog) :
    LogsGrow s t := (of_eq hr ht).trans h

/-- A last update that writes neither kind of log may be left out. -/
theorem then_eq {s t t' : State} (h : LogsGrow s t) (hr : t'.responses = t.responses) (ht : t'.txLog = t.txLog) :
    LogsGrow s t' := h.trans (of_eq hr ht)

/-! ### The two operations that write a log -/

theorem appendResponse (r : List Word) (s : State) : LogsGrow s (appendResponse r s) := by
  refine ⟨fun A => ?_, fun e => List.prefix_refl _⟩
  rw [appendResponse_responses, PerIssuer.get_set]
  split
  · next h => subst h; exact List.prefix_append ..
  · exact List.prefix_refl _

theorem emitTx (e : IfaceId) (F : Frame) (s : State) : LogsGrow s (emitTx e F s) := by
  refine ⟨fun A => List.prefix_refl _, fun f => ?_⟩
  rw [emitTx_txLog, PerIface.get_set]
  split
  · next h => subst h; exact List.prefix_append ..
  · exact List.prefix_refl _

theorem emitAll (es : List IfaceId) (F : Frame) (s : State) : LogsGrow s (emitAll es F s) := by
  induction es generalizing s with
  | nil => exact refl s
  | cons e es ih => exact (emitTx e F s).trans (ih _)

/-! ### The ends of a descriptor or a frame -/

/-- A response after an update that keeps or extends the logs. -/
theorem respondOk {s u : State} (h : LogsGrow s u) (op : Opcode) (ws : List Word) :
    LogsGrow s (respondOk op ws u) := h.trans (appendResponse _ u)

theorem raiseCmdErr (op : Byte) (st : CmdStatus) (s : State) : LogsGrow s (raiseCmdErr op st s) :=
  (appendResponse _ (setStatus statusCmdErr s)).after_eq rfl rfl

theorem raiseDrop (c : DropCause) (s : State) : LogsGrow s (raiseDrop c s) :=
  respondOk (of_eq rfl rfl) ..

theorem routed (e : IfaceId) (F : Frame) (s : State) : LogsGrow s (routed e F s) :=
  respondOk ((emitTx e F s).then_eq rfl rfl) ..

theorem forwardHit (F : Frame) (e : IfaceId) (s : State) : LogsGrow s (forwardHit F e s) :=
  respondOk ((emitTx e F s).then_eq rfl rfl) ..

theorem flood (F : Frame) (i : IfaceId) (s : State) : LogsGrow s (flood F i s) :=
  respondOk ((emitAll (s.floodSet i) F s).then_eq rfl rfl) ..

/-- The learn step answers nothing (45_learning_switch.md R176). -/
theorem learnStep (F : Frame) (i : IfaceId) (s : State) : LogsGrow s (learnStep F i s) :=
  of_eq (mtLearn_responses (smac F) i s) (mtLearn_txLog (smac F) i s)

/-! ### The meanings and the agents' steps -/

/-- The writes of an instruction before its response touch no log, `SOFT_RESET` included
(70_reset_and_hazards.md R220). -/
theorem written {s u : State} {i : Instr} (h : Written s i u) : LogsGrow s u := by
  cases h <;> exact of_eq rfl rfl

theorem frameStep (F : Frame) (i : IfaceId) (s : State) : LogsGrow s (frameStep F i s) := by
  obtain ⟨c, h⟩ | ⟨e, F', -, -, -, h⟩ | ⟨-, -, -, -, h⟩ := frameStep_cases F i s
  · rw [h]; exact raiseDrop c s
  · rw [h]; exact routed e F' s
  · rw [h]; exact learnStep F i s

theorem exec {i : Instr} {s t : State} (h : exec i s = .next t) : LogsGrow s t := by
  obtain ⟨st, -, he⟩ | ⟨ws, u, hw, he⟩ | ⟨a, F, -, -, -, -, he⟩ := exec_cases i s <;>
    obtain rfl := Host.Outcome.next.inj (h.symm.trans he)
  · exact raiseCmdErr _ st s
  · exact (written hw).respondOk _ ws
  · exact frameStep F _ s

/-- The latch is emptied, and then the pending frame is dropped, forwarded or flooded. -/
theorem forwardStep (p : Pending) (s : State) : LogsGrow s (forwardStep p s) := by
  obtain h | ⟨j, -, h⟩ | ⟨-, h⟩ := forwardStep_cases p s
  · rw [h]; exact (raiseDrop ..).after_eq rfl rfl
  · rw [h]; exact (forwardHit ..).after_eq rfl rfl
  · rw [h]; exact (flood ..).after_eq rfl rfl

theorem issue {A : Issuer} {d : Descriptor} {s t : State} (h : issue A d s = .next t) : LogsGrow s t := by
  obtain ⟨i, -, hi⟩ | ⟨e, -, he⟩ := issue_cases A d s
  · exact (exec (hi.symm.trans h)).after_eq rfl rfl
  · obtain rfl := Host.Outcome.next.inj (h.symm.trans he)
    exact (raiseCmdErr ..).after_eq rfl rfl

theorem tick (s : State) : LogsGrow s (tick s) := by
  obtain ⟨-, h⟩ | ⟨-, h⟩ := tick_cases s
  · rw [h]; exact of_eq rfl rfl
  · rw [h]; exact of_eq rfl rfl

theorem step {s t : State} (h : step s = .next t) : LogsGrow s t := by
  obtain ⟨-, hst⟩ | ⟨rest, -, hst⟩ | ⟨rest, -, hst⟩ | ⟨A, rest, p, -, -, hst⟩ | ⟨A, rest, -, -, -, hst⟩ |
    ⟨A, rest, d, ds, -, -, -, -, hst⟩ | ⟨A, rest, d, ds, -, -, -, -, hst⟩ := step_cases s <;>
    replace h := hst.symm.trans h
  · obtain rfl := Host.Outcome.next.inj h
    exact refl s
  · obtain rfl := Host.Outcome.next.inj h
    exact (tick _).after_eq rfl rfl
  · obtain rfl := Host.Outcome.next.inj h
    exact of_eq rfl rfl
  · obtain rfl := Host.Outcome.next.inj h
    exact (forwardStep p _).after_eq rfl rfl
  · obtain rfl := Host.Outcome.next.inj h
    exact of_eq rfl rfl
  · exact (issue h).after_eq rfl rfl
  · cases h

end LogsGrow

/-- Settles O21: every step is one of `step_cases`, and each of them keeps or extends every log. -/
theorem logsOnlyGrow : Obligations.LogsOnlyGrow := fun _ _ h => LogsGrow.step h

end Sys2Proof.Machine

/-! ## At most one valid MAC table slot per link address (10_state.md R25) -/

namespace Sys2Proof.Machine

/-! ### What the writers of `MT` do to its slots -/

@[simp] theorem emitAll_mt (es : List IfaceId) (F : Frame) (s : State) : (emitAll es F s).mt = s.mt := by
  rw [emitAll_frame]

@[simp] theorem flood_mt (F : Frame) (i : IfaceId) (s : State) : (flood F i s).mt = s.mt :=
  emitAll_mt (s.floodSet i) F s

@[simp] theorem mtAt_resetWith (p : Params) (j : Nat) : (State.resetWith p).mtAt j = MtSlot.empty :=
  List.getD_replicate_eq ..

/-- A sweep keeps a slot or empties it (45_learning_switch.md R191). -/
theorem mtAt_sweep_cases (s : State) (j : Nat) :
    (sweep s).mtAt j = s.mtAt j ∨ (sweep s).mtAt j = MtSlot.empty := by
  rw [mtAt_sweep]
  split
  · exact .inr rfl
  · exact .inl rfl

/-- A tick keeps a slot or empties it: its own writes are those of the sweep. -/
theorem mtAt_tick_cases (s : State) (j : Nat) :
    (tick s).mtAt j = s.mtAt j ∨ (tick s).mtAt j = MtSlot.empty := by
  obtain ⟨-, h⟩ | ⟨-, h⟩ := tick_cases s
  · rw [h]; exact .inl rfl
  · rw [h]; exact mtAt_sweep_cases (advanceTime s) j

/-- The writes of an instruction keep a slot of `MT` or empty it; only a `FRAME` learns. -/
theorem Written.mtAt_cases {s u : State} {i : Instr} (h : Written s i u) (j : Nat) :
    u.mtAt j = s.mtAt j ∨ u.mtAt j = MtSlot.empty := by
  cases h with
  | start => exact .inr (mtAt_clearMt j s)
  | reset => exact .inr (mtAt_resetWith s.params j)
  | same | ctrl | status | ageLimit | sweepPeriod | iface | route | routes | neighbor | neighbors =>
    exact .inl rfl

/-- The forward step reads the MAC table and leaves it alone. -/
@[simp] theorem forwardStep_mt (p : Pending) (s : State) : (forwardStep p s).mt = s.mt := by
  obtain h | ⟨j, -, h⟩ | ⟨-, h⟩ := forwardStep_cases p s
  · rw [h]; rfl
  · rw [h]; rfl
  · rw [h]; exact flood_mt ..

/-! ### Uniqueness under those writes -/

namespace State.MacUnique

/-- Keeping or emptying each slot makes no new pair of valid slots. -/
theorem of_slots {s t : State} (h : s.MacUnique)
    (ht : ∀ j, t.mtAt j = s.mtAt j ∨ t.mtAt j = MtSlot.empty) : t.MacUnique := by
  have kept : ∀ j, (t.mtAt j).v = true → t.mtAt j = s.mtAt j := fun j hv =>
    (ht j).resolve_right fun he => by simp [he, MtSlot.empty] at hv
  intro j k hj hk hm
  rw [kept j hj, kept k hk] at hm
  exact h j k (kept j hj ▸ hj) (kept k hk ▸ hk) hm

theorem congr {s t : State} (h : s.MacUnique) (ht : t.mt = s.mt) : t.MacUnique :=
  h.of_slots fun j => .inl (State.mtAt_congr ht j)

theorem resetWith (p : Params) : (State.resetWith p).MacUnique := fun j _ hj => by
  simp [MtSlot.empty] at hj

/-- A slot may take an address that no other valid slot holds. -/
theorem writeMt {s : State} (h : s.MacUnique) {j : Nat} {x : MtSlot}
    (hx : ∀ k, k ≠ j → (s.mtAt k).v = true → (s.mtAt k).mac ≠ x.mac) : (writeMt j x s).MacUnique := by
  by_cases hj : j < s.mt.length
  · have written : ∀ k, (Machine.writeMt j x s).mtAt k = if j = k then x else s.mtAt k := fun k => by
      rw [mtAt_writeMt]; simp [hj]
    intro k l hk hl hm
    rw [written] at hk hl
    rw [written k, written l] at hm
    rcases eq_or_ne j k with rfl | hjk <;> rcases eq_or_ne j l with rfl | hjl
    · rfl
    · rw [if_pos rfl, if_neg hjl] at hm
      exact absurd hm.symm (hx l hjl.symm (by simpa [hjl] using hl))
    · rw [if_neg hjk, if_pos rfl] at hm
      exact absurd hm (hx k hjk.symm (by simpa [hjk] using hk))
    · rw [if_neg hjk, if_neg hjl] at hm
      exact h k l (by simpa [hjk] using hk) (by simpa [hjl] using hl) hm
  · exact h.of_slots fun k => .inl (by rw [mtAt_writeMt, if_neg fun hjk => hj hjk.2])

/-- A learn refreshes the one slot of the address, or takes a free slot when no slot holds the address
(45_learning_switch.md R179). -/
theorem mtLearn {s : State} (h : s.MacUnique) (hl : s.mt.length = s.params.mtDepth) (m : LinkAddr) (i : IfaceId) :
    (mtLearn m i s).MacUnique := by
  obtain ⟨j, hf, he⟩ | ⟨j, hf, -, he⟩ | ⟨-, -, he⟩ := mtLearn_cases m i s
  · rw [he]
    obtain ⟨-, hv, -⟩ := mtFind_some hf
    exact h.writeMt fun k hkj hk hm => hkj (h k j hk hv hm)
  · rw [he]
    exact h.writeMt fun k _ hk => mtFind_none hf k (hl ▸ mt_valid_lt s hk) hk
  · rw [he]; exact h.congr rfl

/-! ### Uniqueness under the steps -/

theorem frameStep {s : State} (h : s.MacUnique) (hl : s.mt.length = s.params.mtDepth) (F : Frame) (i : IfaceId) :
    (frameStep F i s).MacUnique := by
  obtain ⟨c, he⟩ | ⟨e, F', -, -, -, he⟩ | ⟨-, -, -, -, he⟩ := frameStep_cases F i s
  · rw [he]; exact h.congr rfl
  · rw [he]; exact h.congr rfl
  · rw [he]; exact (h.mtLearn hl (smac F) i).congr rfl

theorem exec {s t : State} {i : Instr} (h : s.MacUnique) (hl : s.mt.length = s.params.mtDepth)
    (he : exec i s = .next t) : t.MacUnique := by
  obtain ⟨st, -, hr⟩ | ⟨ws, u, hw, hr⟩ | ⟨a, F, -, -, -, -, hr⟩ := exec_cases i s <;>
    obtain rfl := Host.Outcome.next.inj (he.symm.trans hr)
  · exact h.congr rfl
  · exact (h.of_slots hw.mtAt_cases).congr rfl
  · exact h.frameStep hl F _

theorem issue {s t : State} {A : Issuer} {d : Descriptor} (h : s.MacUnique) (hl : s.mt.length = s.params.mtDepth)
    (he : issue A d s = .next t) : t.MacUnique := by
  obtain ⟨i, -, hi⟩ | ⟨e, -, hi⟩ := issue_cases A d s
  · have h' : { s with agent := A }.MacUnique := h.congr rfl
    exact h'.exec hl (hi.symm.trans he)
  · obtain rfl := Host.Outcome.next.inj (he.symm.trans hi)
    exact h.congr rfl

theorem step {s t : State} (h : s.MacUnique) (hl : s.mt.length = s.params.mtDepth) (he : step s = .next t) :
    t.MacUnique := by
  obtain ⟨-, hst⟩ | ⟨rest, -, hst⟩ | ⟨rest, -, hst⟩ | ⟨A, rest, p, -, -, hst⟩ | ⟨A, rest, -, -, -, hst⟩ |
    ⟨A, rest, d, ds, -, -, -, -, hst⟩ | ⟨A, rest, d, ds, -, -, -, -, hst⟩ := step_cases s <;>
    replace he := hst.symm.trans he
  · obtain rfl := Host.Outcome.next.inj he
    exact h
  · obtain rfl := Host.Outcome.next.inj he
    exact h.of_slots (mtAt_tick_cases { s with schedule := rest })
  · obtain rfl := Host.Outcome.next.inj he
    exact (resetWith s.params).congr rfl
  · obtain rfl := Host.Outcome.next.inj he
    exact h.congr (forwardStep_mt ..)
  · obtain rfl := Host.Outcome.next.inj he
    exact h.congr rfl
  · have h' : { s with schedule := rest, queue := s.queue.set A ds }.MacUnique := h.congr rfl
    exact h'.issue hl he
  · cases he

end State.MacUnique

/-- Settles O13: a reset empties the table, every other write but a learn keeps or empties slots, and a learn
takes a free slot only for an address that the table does not hold. -/
theorem macTableHoldsOneSlotPerAddress : Obligations.MacTableHoldsOneSlotPerAddress :=
  ⟨State.MacUnique.resetWith, fun _ _ hl h he => h.step hl he⟩

end Sys2Proof.Machine

/-! ## Every step keeps the invariant of the engine (10_state.md R13, R14, R21 to R26) -/

namespace Sys2Proof.Machine

/-! ### Reserved bits of `STATUS` -/

theorem statusReserved_or (v w : Word) : statusReserved (v ||| w) = statusReserved v ||| statusReserved w :=
  BitVec.extractLsb'_or

theorem statusReserved_and (v w : Word) : statusReserved (v &&& w) = statusReserved v &&& statusReserved w :=
  BitVec.extractLsb'_and

/-! ### The reset state -/

@[simp] theorem rtAt_resetWith (p : Params) (j : Nat) : (State.resetWith p).rtAt j = RtSlot.empty :=
  List.getD_replicate_eq ..

@[simp] theorem ifAt_resetWith (p : Params) (e : IfaceId) : (State.resetWith p).ifAt e = IfSlot.empty :=
  PerIface.get_replicate ..

@[simp] theorem pend_get_resetWith (p : Params) (A : Issuer) : (State.resetWith p).pend.get A = none := by
  cases A with
  | host => rfl
  | rx i => exact PerIface.get_replicate ..

@[simp] theorem txLog_get_resetWith (p : Params) (e : IfaceId) : PerIface.get (State.resetWith p).txLog e = [] :=
  PerIface.get_replicate ..

namespace State.Inv

theorem resetWith {p : Params} (hp : p.Legal) : (State.resetWith p).Inv where
  legal := hp
  rtLength := List.length_replicate
  nbLength := List.length_replicate
  mtLength := List.length_replicate
  ctrlZero := (by decide : ctrlReserved 0x00000004 = 0)
  statusZero := (by decide : statusReserved 0 = 0)
  routes := fun j hv => by simp [RtSlot.empty] at hv
  absentIfs := fun e _ => ifAt_resetWith p e
  macIfaces := fun j hv => by simp [MtSlot.empty] at hv
  macUnique := .resetWith p
  pendFrames := fun A x hx => by simp at hx
  pendOwn := fun i x hx => by simp at hx
  absentTx := fun e _ => txLog_get_resetWith p e

/-- `SOFT_RESET` keeps the latches and the logs (40_control_ops.md R97). -/
theorem softReset {s : State} (h : s.Inv) : (softReset s).Inv :=
  { resetWith h.legal with pendFrames := h.pendFrames, pendOwn := h.pendOwn, absentTx := h.absentTx }

/-- A hardware reset keeps the logs (70_reset_and_hazards.md R220). -/
theorem hardReset {s : State} (h : s.Inv) : (hardReset s).Inv :=
  { resetWith h.legal with absentTx := h.absentTx }

/-! ### Control registers

In this section and the next ones `{ h with … }` names the clauses that speak of what the update writes; the
others speak of fields it leaves as they are. -/

theorem setStatus {s : State} (h : s.Inv) {m : Word} (hm : statusReserved m = 0) : (setStatus m s).Inv :=
  { h with statusZero := by simp [statusReserved_or, h.statusZero, hm] }

theorem clearStatus {s : State} (h : s.Inv) (w : Word) : (clearStatus w s).Inv :=
  { h with statusZero := by simp [statusReserved_and, h.statusZero] }

theorem setCtrl {s : State} (h : s.Inv) {w : Word} (hw : ctrlReserved w = 0) : (setCtrl w s).Inv :=
  { h with ctrlZero := hw }

/-! ### Tables loaded by `HOST` -/

/-- A route that is legal if it is valid (41_route_table_lpm.md R114). -/
theorem writeRt {s : State} (h : s.Inv) (j : Nat) {x : RtSlot}
    (hx : x.v = true → contiguous x.mask = true ∧ x.iface.toNat < s.params.nIf) : (writeRt j x s).Inv :=
  { h with
    rtLength := by rw [writeRt_rt, List.length_set]; exact h.rtLength
    routes := fun k hv => by
      rw [rtAt_writeRt] at hv ⊢
      by_cases hk : j = k ∧ j < s.rt.length
      · rw [if_pos hk] at hv ⊢; exact hx hv
      · rw [if_neg hk] at hv ⊢; exact h.routes k hv }

theorem clearRt {s : State} (h : s.Inv) : (clearRt s).Inv :=
  { h with
    rtLength := List.length_replicate
    routes := fun k hv => by simp [rtAt_clearRt, RtSlot.empty] at hv }

theorem writeNb {s : State} (h : s.Inv) (j : Nat) (x : NbSlot) : (writeNb j x s).Inv :=
  { h with nbLength := by rw [writeNb_nb, List.length_set]; exact h.nbLength }

theorem clearNb {s : State} (h : s.Inv) : (clearNb s).Inv :=
  { h with nbLength := List.length_replicate }

/-- Only an interface that exists is written (40_control_ops.md R98). -/
theorem writeIf {s : State} (h : s.Inv) {e : IfaceId} (he : e.toNat < s.params.nIf) (x : IfSlot) :
    (writeIf e x s).Inv :=
  { h with
    absentIfs := fun f hf => by
      have hef : e ≠ f := fun hef => absurd he (hef ▸ not_lt.mpr hf)
      rw [ifAt_writeIf, if_neg hef]
      exact h.absentIfs f hf }

/-! ### The MAC table -/

/-- A table of the same depth whose slots are kept or emptied. -/
theorem mtSlots {s t : State} (h : s.Inv) (hl : t.mt.length = s.mt.length)
    (hs : ∀ j, t.mtAt j = s.mtAt j ∨ t.mtAt j = MtSlot.empty) : { s with mt := t.mt }.Inv :=
  { h with
    mtLength := hl.trans h.mtLength
    macIfaces := fun j hv => by
      change (t.mtAt j).v = true at hv
      change (t.mtAt j).iface.toNat < s.params.nIf
      obtain hj | hj := hs j
      · rw [hj] at hv ⊢; exact h.macIfaces j hv
      · simp [hj, MtSlot.empty] at hv
    macUnique := (h.macUnique.of_slots hs).congr rfl }

theorem startRunning {s : State} (h : s.Inv) : (startRunning s).Inv :=
  { h.mtSlots (t := clearMt s) (by simp [h.mtLength]) (fun j => .inr (mtAt_clearMt j s)) with }

theorem tick {s : State} (h : s.Inv) : (tick s).Inv := by
  obtain ⟨-, he⟩ | ⟨-, he⟩ := tick_cases s
  · rw [he]; exact { h with }
  · rw [he]
    exact { h.mtSlots (t := sweep (advanceTime s)) (sweep_mt_length _) (mtAt_sweep_cases (advanceTime s)) with }

/-- A slot that names an interface below `N_IF`, when the table stays unique. -/
theorem writeMt {s : State} (h : s.Inv) {j : Nat} {x : MtSlot} (hx : x.iface.toNat < s.params.nIf)
    (hu : (writeMt j x s).MacUnique) : (writeMt j x s).Inv :=
  { h with
    mtLength := by rw [writeMt_mt, List.length_set]; exact h.mtLength
    macIfaces := fun k hv => by
      rw [mtAt_writeMt] at hv ⊢
      by_cases hk : j = k ∧ j < s.mt.length
      · rw [if_pos hk]; exact hx
      · rw [if_neg hk] at hv ⊢; exact h.macIfaces k hv
    macUnique := hu }

theorem mtLearn {s : State} (h : s.Inv) (m : LinkAddr) {i : IfaceId} (hi : i.toNat < s.params.nIf) :
    (mtLearn m i s).Inv := by
  have hu := h.macUnique.mtLearn h.mtLength m i
  obtain ⟨j, -, he⟩ | ⟨j, -, -, he⟩ | ⟨-, -, he⟩ := mtLearn_cases m i s
  · rw [he] at hu ⊢; exact h.writeMt hi hu
  · rw [he] at hu ⊢; exact h.writeMt hi hu
  · rw [he]; exact { h.setStatus (m := statusMtOvf) (by decide) with }

/-! ### Latches and transmit logs -/

theorem emptyLatch {s : State} (h : s.Inv) (A : Issuer) : (setPend A none s).Inv :=
  { h with
    pendFrames := fun B p hp => by
      rw [setPend_pend, PerIssuer.get_set] at hp
      split at hp
      · cases hp
      · exact h.pendFrames B p hp
    pendOwn := fun i p hp => by
      rw [setPend_pend, PerIssuer.get_set] at hp
      split at hp
      · cases hp
      · exact h.pendOwn i p hp }

/-- The latched frame is no runt, is in range, and is of the agent's own interface if the agent is an `RX[i]`. -/
theorem fillLatch {s : State} (h : s.Inv) {A : Issuer} {p : Pending} (hlo : 14 ≤ p.bytes.length)
    (hhi : p.bytes.length ≤ s.params.maxFrame) (hi : p.iface.toNat < s.params.nIf)
    (hA : ∀ e, A = .rx e → p.iface = e) : (setPend A (some p) s).Inv :=
  { h with
    pendFrames := fun B q hq => by
      rw [setPend_pend, PerIssuer.get_set] at hq
      split at hq
      · obtain rfl := Option.some.inj hq
        exact ⟨hlo, hhi, hi⟩
      · exact h.pendFrames B q hq
    pendOwn := fun e q hq => by
      rw [setPend_pend, PerIssuer.get_set] at hq
      split at hq
      · next he =>
        obtain rfl := Option.some.inj hq
        exact hA e he
      · exact h.pendOwn e q hq }

theorem emitTx {s : State} (h : s.Inv) {e : IfaceId} (he : e.toNat < s.params.nIf) (F : Frame) : (emitTx e F s).Inv :=
  { h with
    absentTx := fun f hf => by
      have hef : e ≠ f := fun hef => absurd he (hef ▸ not_lt.mpr hf)
      rw [emitTx_txLog, PerIface.get_set, if_neg hef]
      exact h.absentTx f hf }

theorem emitAll {s : State} (h : s.Inv) {es : List IfaceId} (hes : ∀ e ∈ es, e.toNat < s.params.nIf) (F : Frame) :
    (emitAll es F s).Inv := by
  induction es generalizing s with
  | nil => exact h
  | cons e es ih =>
    obtain ⟨he, hes⟩ := List.forall_mem_cons.mp hes
    exact ih (h.emitTx he F) hes

/-! ### The ends of a descriptor or a frame -/

theorem respondOk {s : State} (h : s.Inv) (op : Opcode) (ws : List Word) : (respondOk op ws s).Inv := { h with }

theorem raiseCmdErr {s : State} (h : s.Inv) (op : Byte) (st : CmdStatus) : (raiseCmdErr op st s).Inv :=
  { h.setStatus (m := statusCmdErr) (by decide) with }

theorem raiseDrop {s : State} (h : s.Inv) (c : DropCause) : (raiseDrop c s).Inv := { h with }

/-- The route that was found is valid, so its interface exists. -/
theorem routed {s : State} (h : s.Inv) {F F' : Frame} {e : IfaceId} (hd : s.routeDecision F = .ok (e, F')) :
    (routed e F' s).Inv := by
  obtain ⟨-, -, -, -, -, -, ri, qi, hri, -, rfl, -⟩ := routeDecision_ok hd
  obtain ⟨-, hv, -⟩ := mem_lpmMatches.mp (lpm_mem hri)
  obtain ⟨-, hiface⟩ := h.routes ri hv
  exact { h.emitTx hiface F' with }

/-- The slot that was found is valid, so its interface exists. -/
theorem forwardHit {s : State} (h : s.Inv) {m : LinkAddr} {j : Nat} (hj : s.mtFind m = some j) (F : Frame) :
    (forwardHit F (s.mtAt j).iface s).Inv := by
  obtain ⟨-, hv, -⟩ := mtFind_some hj
  exact { h.emitTx (h.macIfaces j hv) F with }

/-- Every interface of the flood set exists (45_learning_switch.md R182). -/
theorem flood {s : State} (h : s.Inv) (F : Frame) (i : IfaceId) : (flood F i s).Inv := by
  have hall : ∀ e ∈ s.floodSet i, e.toNat < s.params.nIf := fun e he => ((mem_floodSet s i e).mp he).1
  exact { h.emitAll hall F with }

/-! ### The meanings -/

theorem written {s u : State} {i : Instr} (h : s.Inv) (hw : Written s i u) : u.Inv := by
  cases hw with
  | same => exact h
  | ctrl hr => exact h.setCtrl hr
  | start hr => exact (h.setCtrl hr).startRunning
  | status => exact h.clearStatus _
  | ageLimit => exact { h with }
  | sweepPeriod => exact { h with }
  | reset => exact h.softReset
  | iface he => exact h.writeIf he _
  | route _ hc => exact h.writeRt _ hc
  | routes => exact h.clearRt
  | neighbor => exact h.writeNb _ _
  | neighbors => exact h.clearNb

/-- A frame that passed the descriptor checks, issued by `HOST` or by the `RX` agent of its own interface. -/
theorem frameStep {s : State} (h : s.Inv) {F : Frame} {i : IfaceId} (hF : F.length ≤ s.params.maxFrame)
    (hi : i.toNat < s.params.nIf) (hown : ∀ e, s.agent = .rx e → i = e) : (frameStep F i s).Inv := by
  obtain ⟨c, he⟩ | ⟨e, F', hd, -, -, he⟩ | ⟨-, -, hlo, -, he⟩ := frameStep_cases F i s
  · rw [he]; exact h.raiseDrop c
  · rw [he]; exact h.routed hd
  · rw [he]
    have hp : (Machine.mtLearn (smac F) i s).params = s.params := by rw [mtLearn_frame]
    exact (h.mtLearn (smac F) hi).fillLatch hlo (by rwa [hp]) (by rwa [hp]) hown

theorem exec {s t : State} {i : Instr} (h : s.Inv)
    (hown : ∀ a F e, i = .frame a F → s.agent = .rx e → ifaceOfA a = e) (he : exec i s = .next t) : t.Inv := by
  obtain ⟨st, -, hr⟩ | ⟨ws, u, hw, hr⟩ | ⟨a, F, hi, hF, -, hn, hr⟩ := exec_cases i s <;>
    obtain rfl := Host.Outcome.next.inj (he.symm.trans hr)
  · exact h.raiseCmdErr _ st
  · exact (h.written hw).respondOk _ ws
  · exact h.frameStep hF hn fun e => hown a F e hi

end State.Inv

/-! ### The agents' steps -/

@[simp] theorem ifaceOfA_setWidth (e : IfaceId) : ifaceOfA (e.setWidth 8) = e := by
  simp [ifaceOfA, BitVec.extractLsb'_setWidth_of_le]

/-- A `FRAME` that `RX[e]` may issue is of interface `e` (00_scope.md R4). -/
theorem ifaceOfA_of_mayIssue {p : Params} {e : IfaceId} {d : Descriptor} {a : Byte} {F : Frame}
    (hm : mayIssue p (.rx e) d = true) (hd : decode d = .ok (.frame a F)) : ifaceOfA a = e := by
  obtain ⟨-, rfl, -, -⟩ := decode_frame hd
  have ha : headerA d.header = e.setWidth 8 := by simp_all [mayIssue]
  rw [ha, ifaceOfA_setWidth]

namespace State.Inv

theorem issue {s t : State} {A : Issuer} {d : Descriptor} (h : s.Inv) (hm : mayIssue s.params A d = true)
    (he : issue A d s = .next t) : t.Inv := by
  have h' : { s with agent := A }.Inv := { h with }
  obtain ⟨i, hd, hi⟩ | ⟨e, -, hi⟩ := issue_cases A d s
  · refine h'.exec (fun a F e hF hA => ?_) (hi.symm.trans he)
    obtain rfl : A = .rx e := hA
    exact ifaceOfA_of_mayIssue hm (hF ▸ hd)
  · obtain rfl := Host.Outcome.next.inj (he.symm.trans hi)
    exact h'.raiseCmdErr ..

theorem forwardStep {s : State} (h : s.Inv) (p : Pending) : (forwardStep p s).Inv := by
  have h' := h.emptyLatch s.agent
  obtain he | ⟨j, hj, he⟩ | ⟨-, he⟩ := forwardStep_cases p s
  · rw [he]; exact h'.raiseDrop _
  · rw [he]; exact h'.forwardHit hj p.bytes
  · rw [he]; exact h'.flood ..

theorem step {s t : State} (h : s.Inv) (he : step s = .next t) : t.Inv := by
  obtain ⟨-, hst⟩ | ⟨rest, -, hst⟩ | ⟨rest, -, hst⟩ | ⟨A, rest, p, -, -, hst⟩ | ⟨A, rest, -, -, -, hst⟩ |
    ⟨A, rest, d, ds, -, -, -, hm, hst⟩ | ⟨A, rest, d, ds, -, -, -, -, hst⟩ := step_cases s <;>
    replace he := hst.symm.trans he
  · obtain rfl := Host.Outcome.next.inj he
    exact h
  · obtain rfl := Host.Outcome.next.inj he
    have h' : { s with schedule := rest }.Inv := { h with }
    exact h'.tick
  · obtain rfl := Host.Outcome.next.inj he
    have h' : { s with schedule := rest }.Inv := { h with }
    exact h'.hardReset
  · obtain rfl := Host.Outcome.next.inj he
    have h' : { s with schedule := rest, agent := A }.Inv := { h with }
    exact h'.forwardStep p
  · obtain rfl := Host.Outcome.next.inj he
    exact { h with }
  · have h' : { s with schedule := rest, queue := s.queue.set A ds }.Inv := { h with }
    exact h'.issue hm he
  · cases he

end State.Inv

/-- Settles O11: at the setting of the test vectors by its legality. -/
theorem resetMeetsInvariant : Obligations.ResetMeetsInvariant :=
  ⟨State.Inv.resetWith (by decide), fun _ hp => State.Inv.resetWith hp⟩

/-- Settles O12: every step is one of `step_cases`, and each update in it keeps the invariant. -/
theorem stepKeepsInvariant : Obligations.StepKeepsInvariant := fun _ _ h he => h.step he

end Sys2Proof.Machine

/-! ## `TIME` moves by a `TICK` or a reset only (10_state.md R17, R27) -/

namespace Sys2Proof

/-! ### Which descriptor carries the key of `SOFT_RESET` -/

/-- A header word is put together again from its three fields (30_encoding.md R61). -/
@[simp] theorem headerWord_fields (w : Word) : headerWord (headerOp w) (headerA w) (headerB w) = w := by
  have hopA : headerOp w ++ headerA w = w.extractLsb' 16 16 := BitVec.extractLsb'_append_extractLsb'_eq_extractLsb' rfl
  have hall : w.extractLsb' 16 16 ++ headerB w = w.extractLsb' 0 32 :=
    BitVec.extractLsb'_append_extractLsb'_eq_extractLsb' rfl
  rw [headerWord, hopA, hall]
  exact BitVec.extractLsb'_eq_self

/-- `SOFT_RESET` has no operand word, so the header is the whole descriptor. -/
theorem decode_softReset {d : Descriptor} {a : Byte} {b : Half} (h : decode d = .ok (.softReset a b)) :
    d = ⟨headerWord Opcode.softReset.byte a b, []⟩ := by
  obtain ⟨op, hop, hlen, hasm⟩ := decode_ok h
  obtain rfl : op = .softReset := by
    rw [← opcode_assemble op (headerA d.header) (headerB d.header) d.rest, hasm]
    rfl
  obtain ⟨rfl, rfl⟩ := Instr.softReset.inj hasm
  rw [Opcode.byte_of_ofByte hop, headerWord_fields, ← List.length_eq_zero_iff.mp hlen]

namespace Machine

/-- An `RX` agent issues no `SOFT_RESET` (00_scope.md R4). -/
theorem mayIssue_rx_not_softReset {p : Params} {e : IfaceId} {d : Descriptor} {a : Byte} {b : Half}
    (hd : decode d = .ok (.softReset a b)) : mayIssue p (.rx e) d = false := by
  rw [decode_softReset hd]
  simp [mayIssue, Opcode.byte]

/-! ### What leaves `TIME` alone -/

@[simp] theorem emitAll_time (es : List IfaceId) (F : Frame) (s : State) : (emitAll es F s).time = s.time := by
  rw [emitAll_frame]

@[simp] theorem mtLearn_time (m : LinkAddr) (i : IfaceId) (s : State) : (mtLearn m i s).time = s.time := by
  rw [mtLearn_frame]

@[simp] theorem frameStep_time (F : Frame) (i : IfaceId) (s : State) : (frameStep F i s).time = s.time := by
  obtain ⟨c, h⟩ | ⟨e, F', -, -, -, h⟩ | ⟨-, -, -, -, h⟩ := frameStep_cases F i s
  · rw [h]; rfl
  · rw [h]; rfl
  · rw [h]; exact mtLearn_time (smac F) i s

@[simp] theorem forwardStep_time (p : Pending) (s : State) : (forwardStep p s).time = s.time := by
  obtain h | ⟨j, -, h⟩ | ⟨-, h⟩ := forwardStep_cases p s
  · rw [h]; rfl
  · rw [h]; rfl
  · rw [h]; exact emitAll_time ..

/-- Of the writes of an instruction only those of an accepted `SOFT_RESET` touch `TIME`. -/
theorem Written.time_eq {s u : State} {i : Instr} (h : Written s i u) (hi : i ≠ .softReset 0 softResetKey) :
    u.time = s.time := by
  cases h with
  | reset => exact absurd rfl hi
  | same | ctrl | start | status | ageLimit | sweepPeriod | iface | route | routes | neighbor | neighbors => rfl

theorem exec_time {s t : State} {i : Instr} (hi : i ≠ .softReset 0 softResetKey) (h : exec i s = .next t) :
    t.time = s.time := by
  obtain ⟨st, -, hr⟩ | ⟨ws, u, hw, hr⟩ | ⟨a, F, -, -, -, -, hr⟩ := exec_cases i s <;>
    obtain rfl := Host.Outcome.next.inj (h.symm.trans hr)
  · rfl
  · exact hw.time_eq hi
  · exact frameStep_time F _ s

theorem issue_time {s t : State} {A : Issuer} {d : Descriptor} (hd : decode d ≠ .ok (.softReset 0 softResetKey))
    (h : issue A d s = .next t) : t.time = s.time := by
  obtain ⟨i, hi, hr⟩ | ⟨e, -, hr⟩ := issue_cases A d s
  · exact (exec_time (fun he => hd (he ▸ hi)) (hr.symm.trans h)).trans rfl
  · obtain rfl := Host.Outcome.next.inj (h.symm.trans hr)
    rfl

/-! ### `TIME` after each kind of step -/

theorem tick_time (s : State) : (tick s).time = s.time + 1 := by
  obtain ⟨-, h⟩ | ⟨-, h⟩ := tick_cases s <;> rw [h] <;> rfl

theorem step_time_of_timer {s t : State} {rest : List Turn} (hs : s.schedule = .timer :: rest)
    (h : step s = .next t) : t.time = s.time + 1 := by
  have ht : step s = .next (tick { s with schedule := rest }) := by simp only [step, nextStep, hs, runTurn]
  obtain rfl := Host.Outcome.next.inj (h.symm.trans ht)
  exact tick_time _

theorem step_time_of_hardReset {s t : State} (hs : s.hardResetNext) (h : step s = .next t) : t.time = 0 := by
  obtain ⟨rest, hs⟩ := hs
  have ht : step s = .next (hardReset { s with schedule := rest }) := by simp only [step, nextStep, hs, runTurn]
  obtain rfl := Host.Outcome.next.inj (h.symm.trans ht)
  rfl

theorem step_time_of_keyedReset {s t : State} (hs : s.keyedResetNext) (h : step s = .next t) : t.time = 0 := by
  obtain ⟨rest, ds, hs, hp, hq⟩ := hs
  have hd : decode ⟨0x04005253, []⟩ = .ok (.softReset 0 softResetKey) := rfl
  have ht := step_of_decode hs hp hq rfl hd
  obtain rfl := Host.Outcome.next.inj (h.symm.trans ht)
  rfl

theorem step_time_of_other {s t : State} (htimer : ¬ ∃ rest, s.schedule = .timer :: rest) (hhard : ¬ s.hardResetNext)
    (hkeyed : ¬ s.keyedResetNext) (h : step s = .next t) : t.time = s.time := by
  obtain ⟨-, hst⟩ | ⟨rest, hs, -⟩ | ⟨rest, hs, -⟩ | ⟨A, rest, p, -, -, hst⟩ | ⟨A, rest, -, -, -, hst⟩ |
    ⟨A, rest, d, ds, hs, hp, hq, hm, hst⟩ | ⟨A, rest, d, ds, -, -, -, -, hst⟩ := step_cases s
  · obtain rfl := Host.Outcome.next.inj (hst.symm.trans h)
    rfl
  · exact absurd ⟨rest, hs⟩ htimer
  · exact absurd ⟨rest, hs⟩ hhard
  · obtain rfl := Host.Outcome.next.inj (hst.symm.trans h)
    exact forwardStep_time p _
  · obtain rfl := Host.Outcome.next.inj (hst.symm.trans h)
    rfl
  · refine (issue_time (fun hd => ?_) (hst.symm.trans h)).trans rfl
    cases A with
    | host =>
      have hword : headerWord Opcode.softReset.byte 0 softResetKey = 0x04005253 := rfl
      rw [decode_softReset hd, hword] at hq
      exact hkeyed ⟨rest, ds, hs, hp, hq⟩
    | rx e => exact absurd hm (by simp [mayIssue_rx_not_softReset hd])
  · cases hst.symm.trans h

/-- Settles O15: by the head of the schedule, and for a turn of `HOST` by its next descriptor. -/
theorem timeMovesOnlyByTickOrReset : Obligations.TimeMovesOnlyByTickOrReset := fun _ _ h =>
  ⟨fun ⟨_, hs⟩ => step_time_of_timer hs h, fun hs => step_time_of_hardReset hs h,
    fun hs => step_time_of_keyedReset hs h, fun htimer hhard hkeyed => step_time_of_other htimer hhard hkeyed h⟩

end Machine
end Sys2Proof

/-! ## `RT`, `NB`, `IF`, `MODE` and `NH_GW` are fixed while `RUN` is 1 (20_memory.md R51) -/

namespace Sys2Proof.Machine

/-- From `s` to `t` everything that R51 holds fixed keeps its value. -/
structure TablesKept (s t : State) : Prop where
  rt : t.rt = s.rt
  nb : t.nb = s.nb
  ifs : t.ifs = s.ifs
  mode : t.routerMode = s.routerMode
  gateway : t.gatewayKey = s.gatewayKey

/-- The next descriptor handled is `SOFT_RESET` when an agent may issue it and it decodes to one. -/
theorem softResetNext_of_decode {s : State} {A : Issuer} {rest : List Turn} {d : Descriptor} {ds : List Descriptor}
    {a : Byte} {b : Half} (hs : s.schedule = .agent A :: rest) (hp : s.pend.get A = none)
    (hq : s.queue.get A = d :: ds) (hm : mayIssue s.params A d = true) (hd : decode d = .ok (.softReset a b)) :
    s.softResetNext := by
  cases A with
  | host => exact ⟨rest, d, ds, hs, hp, hq, by rw [decode_softReset hd, headerOp_headerWord]; rfl⟩
  | rx e => exact absurd hm (by simp [mayIssue_rx_not_softReset hd])

namespace TablesKept

/-! ### The relation -/

/-- An update that writes none of the three tables and not `CTRL`. -/
theorem of_eq {s t : State} (hrt : t.rt = s.rt) (hnb : t.nb = s.nb) (hifs : t.ifs = s.ifs) (hctrl : t.ctrl = s.ctrl) :
    TablesKept s t :=
  ⟨hrt, hnb, hifs, State.routerMode_congr hctrl, State.gatewayKey_congr hctrl⟩

/-! ### Frames: `STATUS`, `MT`, counters, latches and logs only -/

theorem mtLearn (m : LinkAddr) (i : IfaceId) (s : State) : TablesKept s (mtLearn m i s) := by
  rw [mtLearn_frame]; exact of_eq rfl rfl rfl rfl

theorem learnStep (F : Frame) (i : IfaceId) (s : State) : TablesKept s (learnStep F i s) :=
  { mtLearn (smac F) i s with }

theorem emitAll (es : List IfaceId) (F : Frame) (s : State) : TablesKept s (emitAll es F s) := by
  rw [emitAll_frame]; exact of_eq rfl rfl rfl rfl

theorem flood (F : Frame) (i : IfaceId) (s : State) : TablesKept s (flood F i s) :=
  { emitAll (s.floodSet i) F s with }

theorem frameStep (F : Frame) (i : IfaceId) (s : State) : TablesKept s (frameStep F i s) := by
  obtain ⟨c, h⟩ | ⟨e, F', -, -, -, h⟩ | ⟨-, -, -, -, h⟩ := frameStep_cases F i s
  · rw [h]; exact of_eq rfl rfl rfl rfl
  · rw [h]; exact of_eq rfl rfl rfl rfl
  · rw [h]; exact learnStep F i s

theorem forwardStep (p : Pending) (s : State) : TablesKept s (forwardStep p s) := by
  obtain h | ⟨j, -, h⟩ | ⟨-, h⟩ := forwardStep_cases p s
  · rw [h]; exact of_eq rfl rfl rfl rfl
  · rw [h]; exact of_eq rfl rfl rfl rfl
  · rw [h]; exact { flood p.bytes p.iface (setPend s.agent none s) with }

theorem tick (s : State) : TablesKept s (tick s) := by
  obtain ⟨-, h⟩ | ⟨-, h⟩ := tick_cases s
  · rw [h]; exact of_eq rfl rfl rfl rfl
  · rw [h]; exact of_eq rfl rfl rfl rfl

/-! ### Descriptors handled while `RUN` is 1 -/

/-- A write to a table needs `RUN` at 0, and a write to `CTRL` under `RUN` repeats `MODE` and `NH_GW`
(20_memory.md R51); only `SOFT_RESET` is without such a guard. -/
theorem written {s u : State} {i : Instr} (hrun : s.running = true) (hi : ∀ a b, i ≠ .softReset a b)
    (h : Written s i u) : TablesKept s u := by
  have stopped_absurd (ho : s.running = false) : TablesKept s u := by simp [hrun] at ho
  cases h with
  | same | status | ageLimit | sweepPeriod => exact of_eq rfl rfl rfl rfl
  | ctrl _ hb =>
    obtain ⟨hmode, hgw⟩ := hb hrun
    exact ⟨rfl, rfl, rfl, hmode, hgw⟩
  | reset => exact absurd rfl (hi _ _)
  | start _ ho => exact stopped_absurd ho
  | iface _ ho => exact stopped_absurd ho
  | route _ _ ho => exact stopped_absurd ho
  | routes ho => exact stopped_absurd ho
  | neighbor _ ho => exact stopped_absurd ho
  | neighbors ho => exact stopped_absurd ho

theorem exec {s t : State} {i : Instr} (hrun : s.running = true) (hi : ∀ a b, i ≠ .softReset a b)
    (h : exec i s = .next t) : TablesKept s t := by
  obtain ⟨st, -, hr⟩ | ⟨ws, u, hw, hr⟩ | ⟨a, F, -, -, -, -, hr⟩ := exec_cases i s <;>
    obtain rfl := Host.Outcome.next.inj (h.symm.trans hr)
  · exact of_eq rfl rfl rfl rfl
  · exact { written hrun hi hw with }
  · exact frameStep F _ s

theorem issue {s t : State} {A : Issuer} {d : Descriptor} (hrun : s.running = true)
    (hd : ∀ a b, decode d ≠ .ok (.softReset a b)) (h : issue A d s = .next t) : TablesKept s t := by
  obtain ⟨i, hi, hr⟩ | ⟨e, -, hr⟩ := issue_cases A d s
  · have hrun' : { s with agent := A }.running = true := hrun
    have kept := exec hrun' (fun a b he => hd a b (he ▸ hi)) (hr.symm.trans h)
    exact { kept with }
  · obtain rfl := Host.Outcome.next.inj (h.symm.trans hr)
    exact of_eq rfl rfl rfl rfl

theorem step {s t : State} (hrun : s.running = true) (hhard : ¬ s.hardResetNext) (hsoft : ¬ s.softResetNext)
    (h : step s = .next t) : TablesKept s t := by
  obtain ⟨-, hst⟩ | ⟨rest, -, hst⟩ | ⟨rest, hs, -⟩ | ⟨A, rest, p, -, -, hst⟩ | ⟨A, rest, -, -, -, hst⟩ |
    ⟨A, rest, d, ds, hs, hp, hq, hm, hst⟩ | ⟨A, rest, d, ds, -, -, -, -, hst⟩ := step_cases s
  · obtain rfl := Host.Outcome.next.inj (hst.symm.trans h)
    exact of_eq rfl rfl rfl rfl
  · obtain rfl := Host.Outcome.next.inj (hst.symm.trans h)
    exact { tick { s with schedule := rest } with }
  · exact absurd ⟨rest, hs⟩ hhard
  · obtain rfl := Host.Outcome.next.inj (hst.symm.trans h)
    exact { forwardStep p { s with schedule := rest, agent := A } with }
  · obtain rfl := Host.Outcome.next.inj (hst.symm.trans h)
    exact of_eq rfl rfl rfl rfl
  · have hrun' : { s with schedule := rest, queue := s.queue.set A ds }.running = true := hrun
    have kept := issue hrun' (fun a b hd => hsoft (softResetNext_of_decode hs hp hq hm hd)) (hst.symm.trans h)
    exact { kept with }
  · cases hst.symm.trans h

end TablesKept

/-- Settles O16: every writer of a table or of `CTRL` has a guard on `RUN`, but for the two resets. -/
theorem tablesFixedWhileRunning : Obligations.TablesFixedWhileRunning := by
  intro s t h hrun hhard hsoft
  obtain ⟨hrt, hnb, hifs, hmode, hgw⟩ := TablesKept.step hrun hhard hsoft h
  exact ⟨hrt, hnb, hifs, hmode, hgw⟩

end Sys2Proof.Machine

/-! ## The bytes of a payload (20_memory.md R43) -/

namespace Sys2Proof

/-- A descriptor that decodes to an instruction with a byte string has the words for `b` bytes, and the string is
what they unpack to. -/
theorem decode_payload {d : Descriptor} {i : Instr} {bytes : List Byte} (h : decode d = .ok i)
    (hp : i.payload = some bytes) :
    d.rest.length = payloadWords (headerB d.header).toNat ∧
      bytes = unpackBytes d.rest (headerB d.header).toNat := by
  obtain ⟨op, -, hlen, rfl⟩ := decode_ok h
  cases op with
  | csum | hdrVfy | frame => exact ⟨hlen, (Option.some.inj hp).symm⟩
  | nop | ctrlRd | ctrlWr | timeRd | softReset | ifWr | ifRd | rtWr | rtRd | rtClr | rtLkup
  | nbWr | nbRd | nbClr | nbLkup | mtRd | mtLkup => cases hp

namespace Machine

/-- Byte `k` of a word stands in bits `31 - 8 k` down. -/
theorem getD_wordBytes (w : Word) {k : Nat} (hk : k < 4) :
    (wordBytes w).getD k 0 = w.extractLsb' (24 - 8 * k) 8 := by
  interval_cases k <;> rfl

/-- Byte `k` of the words laid end to end is byte `k mod 4` of word `k div 4`. -/
theorem byteAt_flatMap_wordBytes (ws : List Word) (k : Nat) :
    byteAt (ws.flatMap wordBytes) k = (ws.getD (k / 4) 0).extractLsb' (24 - 8 * (k % 4)) 8 := by
  induction ws generalizing k with
  | nil => simp [byteAt]
  | cons w ws ih =>
    have hw : (wordBytes w).length = 4 := rfl
    rw [List.flatMap_cons, byteAt]
    by_cases hk : k < 4
    · rw [List.getD_append _ _ _ _ (by omega), getD_wordBytes w hk, Nat.div_eq_of_lt hk, Nat.mod_eq_of_lt hk,
        List.getD_cons_zero]
    · obtain ⟨j, rfl⟩ : ∃ j, k = j + 4 := ⟨k - 4, by omega⟩
      rw [List.getD_append_right _ _ _ _ (by omega), hw, Nat.add_sub_cancel, Nat.add_mod_right,
        Nat.add_div_right j (by decide), List.getD_cons_succ]
      exact ih j

/-- Dropping the padding leaves the bytes before it where they are. -/
theorem byteAt_unpackBytes (ws : List Word) {n k : Nat} (hk : k < n) :
    byteAt (unpackBytes ws n) k = byteAt (ws.flatMap wordBytes) k := by
  simp only [byteAt, unpackBytes, List.getD_eq_getElem?_getD, List.getElem?_take_of_lt hk]

/-- Settles O3: the bytes are the first `b` of the payload words laid end to end. -/
theorem payloadBytesAreBigEndian : Obligations.PayloadBytesAreBigEndian := by
  intro d i bytes hd hp
  obtain ⟨hwords, rfl⟩ := decode_payload hd hp
  have hlen := length_unpackBytes hwords
  refine ⟨hlen, by rw [hlen, hwords, payloadWords], fun k hk => ?_⟩
  rw [byteAt_unpackBytes d.rest (hlen ▸ hk), byteAt_flatMap_wordBytes]

end Machine
end Sys2Proof

/-! ## Every step completes (20_memory.md R53) -/

namespace Sys2Proof.Machine

/-- No instruction stops the engine. -/
theorem exec_completes (i : Instr) (s : State) : ∃ t, exec i s = .next t := by
  obtain ⟨st, -, h⟩ | ⟨ws, u, -, h⟩ | ⟨a, F, -, -, -, -, h⟩ := exec_cases i s
  · exact ⟨_, h⟩
  · exact ⟨_, h⟩
  · exact ⟨_, h⟩

/-- A descriptor that is no instruction ends with a command error, so handling one never stops. -/
theorem issue_completes (A : Issuer) (d : Descriptor) (s : State) : ∃ t, issue A d s = .next t := by
  obtain ⟨i, -, h⟩ | ⟨e, -, h⟩ := issue_cases A d s
  · rw [h]; exact exec_completes i _
  · exact ⟨_, h⟩

/-- A `FRAME` of interface `i` with consistent word count and length field is one `RX[i]` may issue
(00_scope.md R4). -/
theorem mayIssue_rx_of_header {p : Params} {i : IfaceId} {d : Descriptor} {n : Half} (hi : i.toNat < p.nIf)
    (hn : n.toNat ≤ p.maxFrame) (hd : d.header = headerWord Opcode.frame.byte (i.setWidth 8) n)
    (hlen : d.rest.length = payloadWords n.toNat) : mayIssue p (.rx i) d = true := by
  simp [mayIssue, hd, hlen, hi, hn, Opcode.operandWords]

/-- Settles O18: the one stop of `step_cases` is a refusal of `mayIssue`, which refuses nothing to `HOST`. -/
theorem everyStepCompletes : Obligations.EveryStepCompletes := by
  intro s
  obtain ⟨-, hst⟩ | ⟨rest, -, hst⟩ | ⟨rest, -, hst⟩ | ⟨A, rest, p, -, -, hst⟩ | ⟨A, rest, -, -, -, hst⟩ |
    ⟨A, rest, d, ds, -, -, -, -, hst⟩ | ⟨A, rest, d, ds, hs, hp, hq, hm, hst⟩ := step_cases s
  · exact .inl ⟨_, hst⟩
  · exact .inl ⟨_, hst⟩
  · exact .inl ⟨_, hst⟩
  · exact .inl ⟨_, hst⟩
  · exact .inl ⟨_, hst⟩
  · rw [hst]; exact .inl (issue_completes A d _)
  · cases A with
    | host => cases hm
    | rx i =>
      refine .inr ⟨hst, i, rest, d, ds, hs, hp, hq, fun ⟨hi, n, hn, hd, hlen⟩ => ?_⟩
      have hmay := mayIssue_rx_of_header hi hn hd hlen
      simp [hm] at hmay

end Sys2Proof.Machine

/-! ## The twelve reading descriptors change no state (20_memory.md R49) -/

namespace Sys2Proof.Machine

/-- The status word of an `OK` response is the header byte above 24 zero bits (30_encoding.md R69). -/
theorem statusWord_ok (op : Byte) : statusWord op .ok = op ++ (0 : BitVec 24) := BitVec.append_assoc ..

theorem respondOk_eq_answeredWith (op : Opcode) (ws : List Word) (s : State) :
    respondOk op ws s = answeredWith ((op.byte ++ (0 : BitVec 24)) :: ws) s := by
  rw [← statusWord_ok]; rfl

theorem raiseCmdErr_eq_refusedWith (op : Byte) (st : CmdStatus) (s : State) :
    raiseCmdErr op st s = refusedWith op st.code s := rfl

/-- Only status `OK` has code 0 (60_exceptions.md R205). -/
theorem CmdStatus.code_ne_zero {st : CmdStatus} (h : st ≠ .ok) : st.code ≠ 0 := by
  cases st with
  | ok => exact absurd rfl h
  | opcode | length | field | register | index | busy => decide

/-- A reading descriptor that ends with status `OK` has written nothing before its response. -/
theorem Written.eq_of_readsOnly {s u : State} {i : Instr} (h : Written s i u) (hi : readsOnly i = true) : u = s := by
  cases h with
  | same => rfl
  | ctrl | start | status | ageLimit | sweepPeriod | reset | iface | route | routes | neighbor | neighbors => cases hi

/-- Settles O19: of the ends of `exec_cases` a reading descriptor has a command error and a response alone. -/
theorem readsHaveNoSideEffect : Obligations.ReadsHaveNoSideEffect := by
  intro i s hi
  obtain ⟨st, hst, h⟩ | ⟨ws, u, hw, h⟩ | ⟨a, F, rfl, -⟩ := exec_cases i s
  · exact .inr ⟨st.code, st.code_ne_zero hst, by rw [h, raiseCmdErr_eq_refusedWith]⟩
  · obtain rfl := hw.eq_of_readsOnly hi
    exact .inl ⟨ws, by rw [h, respondOk_eq_answeredWith]⟩
  · cases hi

end Sys2Proof.Machine

/-! ## An idle turn changes nothing (log entry 3) -/

namespace Sys2Proof.Machine

theorem step_of_schedule_nil {s : State} (hs : s.schedule = []) : step s = .next s := by
  simp only [step, nextStep, hs]

/-- The turn of an agent with an empty latch and an empty queue only passes. -/
theorem step_of_idle {s : State} {A : Issuer} {rest : List Turn} (hs : s.schedule = .agent A :: rest)
    (hp : s.pend.get A = none) (hq : s.queue.get A = []) : step s = .next { s with schedule := rest } := by
  simp only [step, nextStep, hs, runTurn, agentTurn, hp, hq]

/-- Settles O24: an empty schedule and an idle agent are two branches of the step that write nothing but the turn. -/
theorem idleTurnChangesNothing : Obligations.IdleTurnChangesNothing :=
  ⟨fun _ hs => step_of_schedule_nil hs, fun _ _ _ hs hp hq => step_of_idle hs hp hq⟩

end Sys2Proof.Machine

/-! ## Encoding and decoding are inverse (30_encoding.md R61, R62; 20_memory.md R43) -/

namespace Sys2Proof

/-! ### Packed bytes -/

@[simp] theorem wordBytes_packWord (b0 b1 b2 b3 : Byte) : wordBytes (packWord b0 b1 b2 b3) = [b0, b1, b2, b3] := by
  have h3 : (packWord b0 b1 b2 b3).extractLsb' 0 8 = b3 := BitVec.extractLsb'_append_eq_right
  have h2 : (packWord b0 b1 b2 b3).extractLsb' 8 8 = b2 :=
    (BitVec.extractLsb'_append_eq_of_le (by decide)).trans BitVec.extractLsb'_append_eq_right
  have h1 : (packWord b0 b1 b2 b3).extractLsb' 16 8 = b1 :=
    (BitVec.extractLsb'_append_eq_of_le (by decide)).trans <|
      (BitVec.extractLsb'_append_eq_of_le (by decide)).trans BitVec.extractLsb'_append_eq_right
  have h0 : (packWord b0 b1 b2 b3).extractLsb' 24 8 = b0 :=
    (BitVec.extractLsb'_append_eq_of_le (by decide)).trans <|
      (BitVec.extractLsb'_append_eq_of_le (by decide)).trans BitVec.extractLsb'_append_eq_left
  simp only [wordBytes, h0, h1, h2, h3]

/-- Packing fills exactly the payload words that the bytes occupy. -/
@[simp] theorem length_packBytes (bytes : List Byte) : (packBytes bytes).length = payloadWords bytes.length := by
  induction bytes using packBytes.induct with
  | case1 | case2 | case3 | case4 => simp [packBytes, payloadWords]
  | case5 b0 b1 b2 b3 rest ih =>
    simp only [packBytes, List.length_cons, ih, payloadWords]
    omega

/-- Packing only adds padding, at the end. -/
theorem isPrefix_flatMap_packBytes (bytes : List Byte) : bytes <+: (packBytes bytes).flatMap wordBytes := by
  induction bytes using packBytes.induct with
  | case1 | case2 | case3 | case4 => simp [packBytes]
  | case5 b0 b1 b2 b3 rest ih => simpa [packBytes] using ih

@[simp] theorem unpackBytes_packBytes (bytes : List Byte) : unpackBytes (packBytes bytes) bytes.length = bytes :=
  (List.prefix_iff_eq_take.mp (isPrefix_flatMap_packBytes bytes)).symm

/-! ### Decoding an encoding -/

theorem decode_descriptorOf {op : Opcode} {a : Byte} {b : Half} {ws : List Word}
    (h : ws.length = op.operandWords b) : decode (descriptorOf op a b ws) = .ok (assemble op a b ws) := by
  simp [decode, descriptorOf, h]

/-- The encoding of a byte string whose length fits the field `b` decodes to that string, for an opcode with the
word count of R63 whose instruction `mk` unpacks `b` bytes. -/
theorem decode_payloadDescriptor {op : Opcode} {a : Byte} {bytes : List Byte} {mk : Byte → List Byte → Instr}
    (hwords : ∀ b, op.operandWords b = payloadWords b.toNat)
    (hmk : ∀ b ws, assemble op a b ws = mk a (unpackBytes ws b.toNat)) (hfits : bytes.length < 65536) :
    decode (payloadDescriptor op a bytes) = .ok (mk a bytes) := by
  have hb : (BitVec.ofNat 16 bytes.length).toNat = bytes.length := Nat.mod_eq_of_lt hfits
  rw [payloadDescriptor, decode_descriptorOf (by rw [length_packBytes, hwords, hb]), hmk, hb, unpackBytes_packBytes]

/-- Settles O1: operand words come back one by one, and a byte string comes back from its packed words. -/
theorem decodeEncodeRoundTrip : Obligations.DecodeEncodeRoundTrip := by
  intro i hi
  cases i with
  | nop | ctrlRd | ctrlWr | timeRd | softReset | ifWr | ifRd | rtWr | rtRd | rtClr | rtLkup
  | nbWr | nbRd | nbClr | nbLkup | mtRd | mtLkup => exact decode_descriptorOf rfl
  | csum | hdrVfy | frame => exact decode_payloadDescriptor (fun _ => rfl) (fun _ _ => rfl) (of_decide_eq_true hi)

/-! ### Encoding what was decoded -/

/-- An instruction without payload, assembled from the right number of words, is encoded by those words. -/
theorem encode_assemble {op : Opcode} {a : Byte} {b : Half} {ws : List Word} (h : ws.length = op.operandWords b)
    (hp : (assemble op a b ws).payload = none) : encode (assemble op a b ws) = descriptorOf op a b ws := by
  cases op with
  | nop | ctrlRd | timeRd | softReset | ifRd | rtRd | rtClr | nbRd | nbClr | mtRd =>
    obtain rfl := List.length_eq_zero_iff.mp h; rfl
  | ctrlWr | rtLkup | nbLkup => obtain ⟨w1, rfl⟩ := List.length_eq_one_iff.mp h; rfl
  | mtLkup => obtain ⟨w1, w2, rfl⟩ := List.length_eq_two.mp h; rfl
  | ifWr | rtWr | nbWr => obtain ⟨w1, w2, w3, rfl⟩ := List.length_eq_three.mp h; rfl
  | csum | hdrVfy | frame => cases hp

/-- Settles O2: the words come back by `encode_assemble`, the header from its three fields. -/
theorem encodeDecodeRoundTrip : Obligations.EncodeDecodeRoundTrip := by
  intro d i hd hp
  obtain ⟨op, hop, hlen, rfl⟩ := decode_ok hd
  rw [encode_assemble hlen hp, descriptorOf, Opcode.byte_of_ofByte hop, headerWord_fields]

end Sys2Proof

/-! ## The checks of opcode and word count (30_encoding.md R62, R63, R65, R66) -/

namespace Sys2Proof

/-! ### The three ends of decoding -/

theorem decode_eq_ok {d : Descriptor} {op : Opcode} (hop : Opcode.ofByte (headerOp d.header) = some op)
    (hlen : d.rest.length = op.operandWords (headerB d.header)) :
    decode d = .ok (assemble op (headerA d.header) (headerB d.header) d.rest) := by
  simp only [decode, hop, hlen, if_true]

theorem decode_eq_error_opcode {d : Descriptor} (hop : Opcode.ofByte (headerOp d.header) = none) :
    decode d = .error .opcode := by
  simp only [decode, hop]

theorem decode_eq_error_length {d : Descriptor} {op : Opcode} (hop : Opcode.ofByte (headerOp d.header) = some op)
    (hlen : d.rest.length ≠ op.operandWords (headerB d.header)) : decode d = .error .length := by
  simp only [decode, hop, hlen, if_false]

theorem decodable_iff (d : Descriptor) :
    (∃ i, decode d = .ok i) ↔
      ∃ op, Opcode.ofByte (headerOp d.header) = some op ∧ d.rest.length = op.operandWords (headerB d.header) := by
  constructor
  · rintro ⟨i, hd⟩
    obtain ⟨op, hop, hlen, -⟩ := decode_ok hd
    exact ⟨op, hop, hlen⟩
  · rintro ⟨op, hop, hlen⟩
    exact ⟨_, decode_eq_ok hop hlen⟩

namespace Machine

/-! ### The opcode table and the decoder agree -/

/-- The header byte `x` stands in a row of the table (30_encoding.md R62). -/
def InTable (x : Byte) : Prop := (∃ k, (x.toNat, k) ∈ fixedLengthRows) ∨ x.toNat ∈ payloadRows

/-- A row of fixed length gives the word count of its opcode, whatever the field `b`. -/
theorem mem_fixedLengthRows_iff (op : Opcode) (b : Half) (k : Nat) :
    (op.byte.toNat, k) ∈ fixedLengthRows ↔ op.byte.toNat ∉ payloadRows ∧ k = 1 + op.operandWords b := by
  cases op <;> simp [fixedLengthRows, payloadRows, Opcode.byte, Opcode.operandWords]

theorem inTable_byte (op : Opcode) : InTable op.byte := by
  by_cases hp : op.byte.toNat ∈ payloadRows
  · exact .inr hp
  · exact .inl ⟨_, (mem_fixedLengthRows_iff op 0 _).mpr ⟨hp, rfl⟩⟩

theorem ofByte_of_isSome {x : Byte} (h : (Opcode.ofByte (BitVec.ofNat 8 x.toNat)).isSome = true) :
    ∃ op, Opcode.ofByte x = some op := by
  rw [BitVec.ofNat_toNat, BitVec.setWidth_eq] at h
  exact Option.isSome_iff_exists.mp h

/-- A header byte selects an opcode exactly when it stands in the table. -/
theorem ofByte_eq_some_iff_inTable (x : Byte) : (∃ op, Opcode.ofByte x = some op) ↔ InTable x := by
  have fixedRows : ∀ r ∈ fixedLengthRows, (Opcode.ofByte (BitVec.ofNat 8 r.1)).isSome = true := by decide
  have variableRows : ∀ n ∈ payloadRows, (Opcode.ofByte (BitVec.ofNat 8 n)).isSome = true := by decide
  constructor
  · rintro ⟨op, hop⟩
    exact Opcode.byte_of_ofByte hop ▸ inTable_byte op
  · rintro (⟨k, hk⟩ | hk)
    · exact ofByte_of_isSome (fixedRows _ hk)
    · exact ofByte_of_isSome (variableRows _ hk)

/-- An opcode of a payload row has the words for `b` bytes (30_encoding.md R63). -/
theorem operandWords_of_mem_payloadRows {op : Opcode} (h : op.byte.toNat ∈ payloadRows) (b : Half) :
    op.operandWords b = (b.toNat + 3) / 4 := by
  cases op with
  | csum | hdrVfy | frame => rfl
  | nop | ctrlRd | ctrlWr | timeRd | softReset | ifWr | ifRd | rtWr | rtRd | rtClr | rtLkup
  | nbWr | nbRd | nbClr | nbLkup | mtRd | mtLkup => exact absurd h (by decide)

/-- Settles O5: of the two kinds of rows exactly one lists a legal opcode, and it gives its word count. -/
theorem decodableExactlyByTable : Obligations.DecodableExactlyByTable := by
  intro d
  rw [decodable_iff]
  constructor
  · rintro ⟨op, hop, hlen⟩
    rw [← Opcode.byte_of_ofByte hop, mem_fixedLengthRows_iff op (headerB d.header), hlen]
    by_cases hp : op.byte.toNat ∈ payloadRows
    · exact .inr ⟨hp, by rw [operandWords_of_mem_payloadRows hp]⟩
    · exact .inl ⟨hp, rfl⟩
  · intro h
    obtain ⟨op, hop⟩ := (ofByte_eq_some_iff_inTable (headerOp d.header)).mpr (h.imp (⟨_, ·⟩) And.left)
    refine ⟨op, hop, ?_⟩
    rw [← Opcode.byte_of_ofByte hop, mem_fixedLengthRows_iff op (headerB d.header)] at h
    obtain ⟨-, hwords⟩ | ⟨hp, hwords⟩ := h
    · exact Nat.add_left_cancel hwords
    · rw [operandWords_of_mem_payloadRows hp]
      exact Nat.add_left_cancel hwords

/-! ### What `HOST` is answered -/

/-- The turn of `HOST` ends a descriptor that does not decode with the status of checks 1 and 2
(30_encoding.md R66). -/
theorem hostStep_of_decode_error {s : State} {rest : List Turn} {d : Descriptor} {ds : List Descriptor}
    {e : DecodeError} (hs : s.schedule = .agent .host :: rest) (hp : s.pend.get .host = none)
    (hq : s.queue.get .host = d :: ds) (hd : decode d = .error e) :
    step s = .next (refusedWith (headerOp d.header) (decodeStatus e).code
      { s with schedule := rest, queue := s.queue.set .host ds, agent := .host }) := by
  have hmay : mayIssue s.params .host d = true := rfl
  simp only [step, nextStep, hs, runTurn, agentTurn, hp, hq, hmay, issue, hd, if_true, raiseCmdErr_eq_refusedWith]

/-- Settles O6: a byte outside the table selects no opcode. -/
theorem illegalOpcodeRaisesErrOpcode : Obligations.IllegalOpcodeRaisesErrOpcode := by
  intro s rest d ds hs hp hq hfixed hpayload
  have hnot : ¬ InTable (headerOp d.header) := not_or.mpr ⟨not_exists.mpr hfixed, hpayload⟩
  have hnone : Opcode.ofByte (headerOp d.header) = none := by
    rwa [← ofByte_eq_some_iff_inTable, ← Option.isSome_iff_exists, Option.not_isSome_iff_eq_none] at hnot
  exact hostStep_of_decode_error (e := .opcode) hs hp hq (decode_eq_error_opcode hnone)

/-- The meaning of a variable-length opcode checks the byte count first (30_encoding.md R63, R66). -/
theorem exec_of_length_out_of_range {i : Instr} {op : Opcode} {s : State} (hop : i.opcode = op)
    (h : ¬ lengthInRange s.params i) : exec i s = .next (refusedWith op.byte 0x02 s) := by
  subst hop
  cases i with
  | csum | frame => exact if_pos (not_le.mp h)
  | hdrVfy => exact if_pos (by simp only [lengthInRange] at h; omega)
  | nop | ctrlRd | ctrlWr | timeRd | softReset | ifWr | ifRd | rtWr | rtRd | rtClr | rtLkup
  | nbWr | nbRd | nbClr | nbLkup | mtRd | mtLkup => exact absurd trivial h

/-- A byte count in range, said of the opcode and the field `b` (30_encoding.md R63). -/
theorem lengthInRange_assemble {p : Params} {op : Opcode} {a : Byte} {b : Half} {ws : List Word}
    (hlen : ws.length = op.operandWords b) (h : lengthInRange p (assemble op a b ws)) :
    (op.byte.toNat ∈ payloadRows → b.toNat ≤ p.maxFrame) ∧ (op.byte.toNat = 0x41 → 12 ≤ b.toNat) := by
  cases op with
  | csum | frame =>
    refine ⟨fun _ => ?_, fun h41 => absurd h41 (by decide)⟩
    rwa [← length_unpackBytes hlen]
  | hdrVfy =>
    simp only [assemble, lengthInRange, length_unpackBytes hlen] at h
    exact ⟨fun _ => h.2, fun _ => h.1⟩
  | nop | ctrlRd | ctrlWr | timeRd | softReset | ifWr | ifRd | rtWr | rtRd | rtClr | rtLkup
  | nbWr | nbRd | nbClr | nbLkup | mtRd | mtLkup =>
    exact ⟨fun hp => absurd hp (by decide), fun h41 => absurd h41 (by decide)⟩

/-- Settles O7: the decoder refuses a wrong word count, and the meaning a byte count out of range. -/
theorem wrongLengthRaisesErrLen : Obligations.WrongLengthRaisesErrLen := by
  intro s rest d ds hs hp hq hwrong
  have hin : InTable (headerOp d.header) := by
    obtain ⟨k, hk, -⟩ | ⟨hrow, -⟩ | ⟨hrow, -⟩ | ⟨h41, -⟩ := hwrong
    · exact .inl ⟨k, hk⟩
    · exact .inr hrow
    · exact .inr hrow
    · exact .inr (by simp [payloadRows, h41])
  obtain ⟨op, hop⟩ := (ofByte_eq_some_iff_inTable _).mpr hin
  by_cases hlen : d.rest.length = op.operandWords (headerB d.header)
  case neg => exact hostStep_of_decode_error (e := .length) hs hp hq (decode_eq_error_length hop hlen)
  rw [step_of_decode hs hp hq rfl (decode_eq_ok hop hlen)]
  rw [← Opcode.byte_of_ofByte hop] at hwrong ⊢
  refine exec_of_length_out_of_range (opcode_assemble ..) fun h => ?_
  obtain ⟨hmax, hmin⟩ := lengthInRange_assemble hlen h
  obtain ⟨k, hk, hne⟩ | ⟨hrow, hne⟩ | ⟨hrow, hgt⟩ | ⟨h41, hlt⟩ := hwrong
  · obtain ⟨-, hk⟩ := (mem_fixedLengthRows_iff op (headerB d.header) k).mp hk
    exact hne (by rw [hlen, hk])
  · exact hne (by rw [hlen, operandWords_of_mem_payloadRows hrow])
  · exact absurd (hmax hrow) (not_le.mpr hgt)
  · exact absurd (hmin h41) (not_le.mpr hlt)

end Machine
end Sys2Proof

/-! ## Fixed header bits (30_encoding.md R64) -/

namespace Sys2Proof.Machine

/-! ### Masks -/

/-- A field that is 0 is 0 under every mask that reaches nothing else. -/
theorem and_eq_zero_of_extractLsb'_eq_zero {w start len : Nat} {x : BitVec w} (m : BitVec w)
    (h : x.extractLsb' start len = 0) (hm : ∀ k < w, m.getLsbD k = true → start ≤ k ∧ k < start + len) :
    x &&& m = 0 := by
  ext k hk
  by_cases hmk : m.getLsbD k = true
  · obtain ⟨hlo, hhi⟩ := hm k hk hmk
    have hbit : (x.extractLsb' start len).getLsbD (k - start) = false := by simp [h]
    rw [BitVec.getLsbD_extractLsb', Nat.add_sub_cancel' hlo] at hbit
    simp only [show k - start < len by omega, decide_true, Bool.true_and] at hbit
    simp [← BitVec.getLsbD_eq_getElem, hbit]
  · simp [← BitVec.getLsbD_eq_getElem, hmk]

theorem headerWord_and (op a op' a' : Byte) (b b' : Half) :
    headerWord op a b &&& headerWord op' a' b' = headerWord (op &&& op') (a &&& a') (b &&& b') :=
  BitVec.and_append.trans (congrArg (· ++ (b &&& b')) BitVec.and_append)

theorem headerWord_inj {op a op' a' : Byte} {b b' : Half} :
    headerWord op a b = headerWord op' a' b' ↔ op = op' ∧ a = a' ∧ b = b' := by
  refine ⟨fun h => ⟨?_, ?_, ?_⟩, fun ⟨hop, ha, hb⟩ => by rw [hop, ha, hb]⟩
  · simpa using congrArg headerOp h
  · simpa using congrArg headerA h
  · simpa using congrArg headerB h

/-- The table fixes the whole header byte, and no bit of `a` to 1. -/
theorem fixedBits_eq (op : Opcode) :
    fixedBits op = (headerWord 0xFF (headerA (fixedBits op).1) (headerB (fixedBits op).1),
      headerWord op.byte 0 (headerB (fixedBits op).2)) := by
  cases op <;> rfl

/-- The fixed bits of a header hold their values when those of `a` and of `b` do. -/
theorem headerWord_and_fixedBits {op : Opcode} {a : Byte} {b : Half} (ha : a &&& headerA (fixedBits op).1 = 0)
    (hb : b &&& headerB (fixedBits op).1 = headerB (fixedBits op).2) :
    headerWord op.byte a b &&& (fixedBits op).1 = (fixedBits op).2 := by
  have hop : op.byte &&& 0xFF = op.byte := BitVec.and_allOnes
  rw [fixedBits_eq op]
  simp only [headerWord_and, ha, hb, hop]

/-! ### The meanings -/

theorem reservedA_mask {a : Byte} (h : reservedA a = 0) : a &&& 0xF0 = 0 :=
  and_eq_zero_of_extractLsb'_eq_zero 0xF0 h (by decide)

theorem reservedB_mask {b : Half} (h : reservedB b = 0) : b &&& 0xFFFE = 0 :=
  and_eq_zero_of_extractLsb'_eq_zero 0xFFFE h (by decide)

/-- The two reserved fields of `b` in `RT_WR` (30_encoding.md R62). -/
theorem reservedBLow_reservedBHigh_mask {b : Half} (hlow : reservedBLow b = 0) (hhigh : reservedBHigh b = 0) :
    b &&& 0xFF0E = 0 := by
  have low : b &&& 0x000E = 0 := and_eq_zero_of_extractLsb'_eq_zero 0x000E hlow (by decide)
  have high : b &&& 0xFF00 = 0 := and_eq_zero_of_extractLsb'_eq_zero 0xFF00 hhigh (by decide)
  have parts : (0xFF0E : Half) = 0xFF00 ||| 0x000E := by decide
  rw [parts, BitVec.and_or_distrib_left, low, high, BitVec.or_self]

/-- Settles O8: in each meaning the check of `a` and `b` refuses when a fixed bit differs; where a byte count is
checked before it, the count is in range. -/
theorem reservedHeaderBitsRaiseErrField : Obligations.ReservedHeaderBitsRaiseErrField := by
  intro s i hlen _ hbits
  cases i with
  | nop a b | timeRd a b | rtClr a b | nbClr a b | rtLkup a b _ | nbLkup a b _ | mtLkup a b _ _
  | softReset a b =>
    refine if_pos (not_and_or.mp ?_)
    rintro ⟨rfl, rfl⟩
    exact hbits (headerWord_and_fixedBits rfl rfl)
  | ctrlRd a b | ctrlWr a b _ | rtRd a b | nbRd a b | mtRd a b =>
    refine if_pos ?_
    rintro rfl
    exact hbits (headerWord_and_fixedBits BitVec.and_zero rfl)
  | ifRd a b =>
    refine if_pos (not_and_or.mp ?_)
    rintro ⟨ha, rfl⟩
    exact hbits (headerWord_and_fixedBits (reservedA_mask ha) rfl)
  | ifWr a b _ _ _ =>
    refine if_pos (not_and_or.mp ?_)
    rintro ⟨ha, hb⟩
    exact hbits (headerWord_and_fixedBits (reservedA_mask ha) (reservedB_mask hb))
  | rtWr a b _ _ _ =>
    refine if_pos (not_and_or.mp ?_)
    rintro ⟨hlow, hhigh⟩
    exact hbits (headerWord_and_fixedBits BitVec.and_zero (reservedBLow_reservedBHigh_mask hlow hhigh))
  | nbWr a b _ _ _ =>
    refine if_pos ?_
    intro hb
    exact hbits (headerWord_and_fixedBits BitVec.and_zero (reservedB_mask hb))
  | csum a bytes =>
    refine (if_neg (not_lt.mpr hlen)).trans (if_pos ?_)
    rintro rfl
    exact hbits (headerWord_and_fixedBits rfl BitVec.and_zero)
  | hdrVfy a bytes =>
    obtain ⟨hmin, hmax⟩ := hlen
    refine (if_neg (not_or.mpr ⟨not_lt.mpr hmax, not_lt.mpr hmin⟩)).trans (if_pos ?_)
    rintro rfl
    exact hbits (headerWord_and_fixedBits rfl BitVec.and_zero)
  | frame a bytes =>
    refine (if_neg (not_lt.mpr hlen)).trans (if_pos ?_)
    intro ha
    exact hbits (headerWord_and_fixedBits (reservedA_mask ha) BitVec.and_zero)

end Sys2Proof.Machine

/-! ## Every instruction answers once (30_encoding.md R68, R69; 45_learning_switch.md R175, R176) -/

namespace Sys2Proof.Machine

/-! ### The status word -/

theorem statusWord_op (op : Byte) (st : CmdStatus) : (statusWord op st).extractLsb' 24 8 = op :=
  (BitVec.extractLsb'_append_eq_of_le (by decide)).trans BitVec.extractLsb'_append_eq_left

theorem statusWord_zeros (op : Byte) (st : CmdStatus) : (statusWord op st).extractLsb' 8 16 = 0 :=
  (BitVec.extractLsb'_append_eq_of_le (by decide)).trans BitVec.extractLsb'_append_eq_right

/-! ### One record, and the latches unchanged -/

/-- From `s` to `t` the log of the issuing agent gets one record, which echoes `op` (30_encoding.md R69), and no
latch changes. -/
def Answers (op : Opcode) (s t : State) : Prop :=
  t.pend = s.pend ∧ ∃ st ws, t.responses = s.responses.set s.agent
    (s.responses.get s.agent ++ [statusWord op.byte st :: ws])

namespace Answers

theorem raiseCmdErr (op : Opcode) (st : CmdStatus) (s : State) : Answers op s (raiseCmdErr op.byte st s) :=
  ⟨rfl, st, [], rfl⟩

/-- A response after writes that leave the latches, the response logs and the agent alone. -/
theorem respondOk {s u : State} (hp : u.pend = s.pend) (hr : u.responses = s.responses) (ha : u.agent = s.agent)
    (op : Opcode) (ws : List Word) : Answers op s (respondOk op ws u) :=
  ⟨hp, .ok, ws, by rw [respondOk_responses, hr, ha]⟩

theorem raiseDrop (c : DropCause) (s : State) : Answers .frame s (raiseDrop c s) := respondOk rfl rfl rfl ..

theorem routed (e : IfaceId) (F : Frame) (s : State) : Answers .frame s (routed e F s) := respondOk rfl rfl rfl ..

/-- No write of an instruction before its response touches a latch or a response log, `SOFT_RESET` included
(40_control_ops.md R97). -/
theorem written {s u : State} {i : Instr} (h : Written s i u) (ws : List Word) :
    Answers i.opcode s (Machine.respondOk i.opcode ws u) := by
  cases h <;> exact respondOk rfl rfl rfl ..

end Answers

/-! ### The learn step -/

theorem learnStep_responses (F : Frame) (i : IfaceId) (s : State) : (learnStep F i s).responses = s.responses :=
  mtLearn_responses ..

theorem learnStep_pend (F : Frame) (i : IfaceId) (s : State) :
    (learnStep F i s).pend = s.pend.set s.agent (some { bytes := F, iface := i }) := by
  rw [learnStep, setPend, mtLearn_frame]

/-- The two ways the first step of a frame ends: an answer, or the learn step. -/
theorem frameStep_answers_or_learns (F : Frame) (i : IfaceId) (s : State) :
    Answers .frame s (frameStep F i s) ∨ frameStep F i s = learnStep F i s := by
  obtain ⟨c, h⟩ | ⟨e, F', -, -, -, h⟩ | ⟨-, -, -, -, h⟩ := frameStep_cases F i s
  · rw [h]; exact .inl (.raiseDrop c s)
  · rw [h]; exact .inl (.routed e F' s)
  · exact .inr h

/-- An instruction answers, or it is a `FRAME` that ends with the learn step. -/
theorem exec_answers_or_learns (i : Instr) (s : State) :
    (∃ t, exec i s = .next t ∧ Answers i.opcode s t) ∨
    (∃ a F, i = .frame a F ∧ exec i s = .next (learnStep F (ifaceOfA a) s)) := by
  obtain ⟨st, -, h⟩ | ⟨ws, u, hw, h⟩ | ⟨a, F, rfl, -, -, -, h⟩ := exec_cases i s
  · exact .inl ⟨_, h, .raiseCmdErr ..⟩
  · exact .inl ⟨_, h, .written hw ws⟩
  · obtain ha | hl := frameStep_answers_or_learns F (ifaceOfA a) s
    · exact .inl ⟨_, h, ha⟩
    · exact .inr ⟨a, F, rfl, by rw [h, hl]⟩

/-- `a[3:0]` is `a` cut to four bits. -/
theorem ifaceOfA_eq_setWidth (a : Byte) : ifaceOfA a = a.setWidth 4 :=
  (BitVec.setWidth_eq_extractLsb' (by decide)).symm

/-- Settles O10: of the ends of `exec_cases` only the learn step of a `FRAME` appends no record. -/
theorem oneRecordPerInstruction : Obligations.OneRecordPerInstruction := by
  intro i s
  obtain ⟨t, h, hp, st, ws, hr⟩ | ⟨a, F, rfl, h⟩ := exec_answers_or_learns i s
  · exact .inl ⟨t, _, ws, h, hp, hr, statusWord_op .., statusWord_zeros ..⟩
  · refine .inr ⟨_, a, F, rfl, h, learnStep_responses .., ?_⟩
    rw [learnStep_pend, ifaceOfA_eq_setWidth]

end Sys2Proof.Machine


/-! ## How the control operations end (40_control_ops.md) -/

namespace Sys2Proof.Machine

/-! ### The two ends of a meaning -/

/-- A meaning that ends with status `OK`; `head` is its status word (30_encoding.md R69). -/
theorem done_eq_answeredWith {op : Opcode} {head : Word} (hhead : head = op.byte ++ (0 : BitVec 24)) (ws : List Word)
    (s : State) : done op ws s = .next (answeredWith (head :: ws) s) := by
  rw [hhead, ← respondOk_eq_answeredWith, done]

theorem cmdErr_eq_refusedWith (op : Opcode) (st : CmdStatus) (s : State) :
    cmdErr op st s = .next (refusedWith op.byte st.code s) := rfl

/-! ### `NOP` and `TIME_RD` (R90, R96) -/

theorem stampHi_eq_setWidth (t : Stamp) : stampHi t = (t >>> 32).setWidth 32 :=
  BitVec.setWidth_ushiftRight_eq_extractLsb.symm

theorem stampLo_eq_setWidth (t : Stamp) : stampLo t = t.setWidth 32 := (BitVec.setWidth_eq_extractLsb' (by decide)).symm

/-- Settles O27: neither refuses, and the high word of a time is its upper half. -/
theorem nopAndTimeRdRespond : Obligations.NopAndTimeRdRespond := by
  intro s
  rw [← stampHi_eq_setWidth, ← stampLo_eq_setWidth, ← stampHi_eq_setWidth, ← stampLo_eq_setWidth]
  exact ⟨done_eq_answeredWith rfl .., done_eq_answeredWith rfl ..⟩

/-! ### `SOFT_RESET` (R97) -/

theorem softReset_atReset (s : State) : (softReset s).AtReset where
  ctrl := softReset_ctrl s
  status := softReset_status s
  ageLimit := softReset_ageLimit s
  sweepPeriod := softReset_sweepPeriod s
  time := softReset_time s
  sweepLast := softReset_sweepLast s
  counters := softReset_counters s
  rt := softReset_rt s
  nb := softReset_nb s
  ifs _ := PerIface.get_replicate ..
  mt := softReset_mt s

/-- Settles O26: with its key the meaning answers from the soft reset, and any other `a` or `b` it refuses. -/
theorem softResetKeepsLatchesAndLogs : Obligations.SoftResetKeepsLatchesAndLogs := by
  refine fun s => ⟨⟨softReset s, ?_, softReset_atReset s, softReset_params s, softReset_pend s, softReset_responses s,
    softReset_txLog s, softReset_queue s, softReset_schedule s, softReset_agent s⟩, fun a b hkey => ?_⟩
  · exact done_eq_answeredWith rfl [] (softReset s)
  · exact if_pos hkey

end Sys2Proof.Machine

/-! ## The register space (10_state.md R20) -/

namespace Sys2Proof.Machine

/-! ### Registers and their numbers -/

/-- The number of a register: `Csr.ofNumber_number` and `Csr.number_of_ofNumber` tie it to `Csr.ofNumber`. -/
def Csr.number : Csr → Byte
  | .id => 0x00
  | .capIf => 0x01
  | .capRt => 0x02
  | .capNb => 0x03
  | .capMt => 0x04
  | .capFrame => 0x05
  | .ctrl => 0x08
  | .status => 0x09
  | .ageLimit => 0x0A
  | .sweepPeriod => 0x0B
  | .cntRouted => 0x40
  | .cntSwitched => 0x41
  | .cntFlooded => 0x42
  | .cntLearnOvf => 0x43
  | .cntEvict => 0x44
  | .cntSweep => 0x45
  | .cntDrop c => 0x50 + c.code

theorem Csr.ofNumber_number (r : Csr) : Csr.ofNumber r.number = some r := by
  cases r with
  | cntDrop c => cases c <;> rfl
  | id | capIf | capRt | capNb | capMt | capFrame | ctrl | status | ageLimit | sweepPeriod
  | cntRouted | cntSwitched | cntFlooded | cntLearnOvf | cntEvict | cntSweep => rfl

theorem Csr.number_of_ofNumber {a : Byte} {r : Csr} (h : Csr.ofNumber a = some r) : r.number = a := by
  rw [← BitVec.toNat_inj]
  unfold Csr.ofNumber at h
  split at h
  case h_27 => cases h
  all_goals
    next ha =>
    rw [ha, ← Option.some.inj h]
    rfl

/-- Every register, in the order of its number. -/
def Csr.all : List Csr :=
  [.id, .capIf, .capRt, .capNb, .capMt, .capFrame, .ctrl, .status, .ageLimit, .sweepPeriod, .cntRouted, .cntSwitched,
   .cntFlooded, .cntLearnOvf, .cntEvict, .cntSweep, .cntDrop .type, .cntDrop .csum, .cntDrop .ttl, .cntDrop .self,
   .cntDrop .noRoute, .cntDrop .noNeigh, .cntDrop .runt, .cntDrop .malformed, .cntDrop .notRun, .cntDrop .badPort]

theorem Csr.mem_all (r : Csr) : r ∈ Csr.all := by
  cases r with
  | cntDrop c => cases c <;> decide
  | id | capIf | capRt | capNb | capMt | capFrame | ctrl | status | ageLimit | sweepPeriod
  | cntRouted | cntSwitched | cntFlooded | cntLearnOvf | cntEvict | cntSweep => decide

theorem registerSpace_eq_map (s : State) : registerSpace s = Csr.all.map fun r => (r.number, s.readCsr r) := rfl

/-- The register space holds each register with its number and its value, and nothing else. -/
theorem mem_registerSpace_iff {s : State} {p : Byte × Word} :
    p ∈ registerSpace s ↔ ∃ r : Csr, (r.number, s.readCsr r) = p := by
  simp [registerSpace_eq_map, Csr.mem_all]

/-! ### `CTRL_RD` (40_control_ops.md R91) -/

theorem exec_ctrlRd_of_ofNumber_some {a : Byte} {r : Csr} (ha : Csr.ofNumber a = some r) (s : State) :
    exec (.ctrlRd a 0) s = .next (answeredWith [0x01000000, s.readCsr r] s) := by
  have hdone : exec (.ctrlRd a 0) s = done .ctrlRd [s.readCsr r] s := by simp [exec, execCtrlRd, ha]
  exact hdone.trans (done_eq_answeredWith rfl ..)

theorem exec_ctrlRd_of_ofNumber_none {a : Byte} (ha : Csr.ofNumber a = none) (s : State) :
    exec (.ctrlRd a 0) s = .next (refusedWith 0x01 0x04 s) := by
  have herr : exec (.ctrlRd a 0) s = cmdErr .ctrlRd .register s := by simp [exec, execCtrlRd, ha]
  exact herr.trans (cmdErr_eq_refusedWith ..)

/-- Settles O28: the numbers of the register space are those that name a register. -/
theorem ctrlRdReadsTheRegisterSpace : Obligations.CtrlRdReadsTheRegisterSpace := by
  refine fun s => ⟨fun p hp => ?_, fun a ha => ?_⟩
  · obtain ⟨r, rfl⟩ := mem_registerSpace_iff.mp hp
    exact exec_ctrlRd_of_ofNumber_some (Csr.ofNumber_number r) s
  · refine exec_ctrlRd_of_ofNumber_none (Option.eq_none_iff_forall_ne_some.mpr fun r hr => ?_) s
    exact ha _ (mem_registerSpace_iff.mpr ⟨r, rfl⟩) (Csr.number_of_ofNumber hr)

end Sys2Proof.Machine

/-! ## Writing the control registers (40_control_ops.md R92 to R95) -/

namespace Sys2Proof.Machine

/-! ### Which meaning a register number selects -/

theorem exec_ctrlWr_ctrl (w : Word) (s : State) : exec (.ctrlWr 0x08 0 w) s = writeCtrl w s := rfl

theorem exec_ctrlWr_status (w : Word) (s : State) : exec (.ctrlWr 0x09 0 w) s = writeStatus w s := rfl

theorem exec_ctrlWr_ageLimit (w : Word) (s : State) :
    exec (.ctrlWr 0x0A 0 w) s = done .ctrlWr [] (setAgeLimit w s) := rfl

theorem exec_ctrlWr_sweepPeriod (w : Word) (s : State) :
    exec (.ctrlWr 0x0B 0 w) s = done .ctrlWr [] (setSweepPeriod w s) := rfl

/-- The four arms of the meaning that write are those of the four numbers (R92). -/
theorem exec_ctrlWr_of_not_writable {a : Byte} (ha : a ∉ ([0x08, 0x09, 0x0A, 0x0B] : List Byte)) (w : Word)
    (s : State) : exec (.ctrlWr a 0 w) s = cmdErr .ctrlWr .register s := by
  have hother {r : Csr} (h : Csr.ofNumber a = some r) : r.number ∉ ([0x08, 0x09, 0x0A, 0x0B] : List Byte) :=
    Csr.number_of_ofNumber h ▸ ha
  change execCtrlWr a 0 w s = _
  unfold execCtrlWr
  rw [if_neg (not_not.mpr rfl)]
  split
  case h_5 => rfl
  all_goals next h => exact absurd (by decide) (hother h)

/-! ### The four ends of a write to `CTRL` (R93) -/

section
variable {w : Word} {s : State}

theorem writeCtrl_of_reserved (h : ctrlReserved w ≠ 0) : writeCtrl w s = cmdErr .ctrlWr .field s := if_pos h

theorem writeCtrl_of_mode_change (hr : ctrlReserved w = 0) (hrun : s.running = true)
    (h : ctrlMode w ≠ s.routerMode ∨ ctrlNhGw w ≠ s.gatewayKey) : writeCtrl w s = cmdErr .ctrlWr .busy s :=
  (if_neg (not_not.mpr hr)).trans (if_pos ⟨hrun, h⟩)

theorem writeCtrl_of_run_kept (hr : ctrlReserved w = 0) (hrun : s.running = true) (hmode : ctrlMode w = s.routerMode)
    (hgw : ctrlNhGw w = s.gatewayKey) : writeCtrl w s = done .ctrlWr [] (setCtrl w s) := by
  simp [writeCtrl, hr, hrun, hmode, hgw]

theorem writeCtrl_of_stop_kept (hr : ctrlReserved w = 0) (hstop : s.running = false) (hw : ctrlRun w = false) :
    writeCtrl w s = done .ctrlWr [] (setCtrl w s) := by
  simp [writeCtrl, hr, hstop, hw]

theorem writeCtrl_of_start (hr : ctrlReserved w = 0) (hstop : s.running = false) (hw : ctrlRun w = true) :
    writeCtrl w s = done .ctrlWr [] (startRunning (setCtrl w s)) := by
  simp [writeCtrl, hr, hstop, hw]

end

/-- Settles O29: the five clauses are the ends of `writeCtrl`; bits 31:4 are 0 below 16 only. -/
theorem ctrlWrToCtrl : Obligations.CtrlWrToCtrl := by
  intro s w
  rw [exec_ctrlWr_ctrl]
  refine ⟨fun hw => ?_, fun hw hrun hmode => ?_, fun hw hrun hmode hgw => ?_, fun hw hstop hrun => ?_,
    fun hw hstop hrun => ?_⟩
  · exact writeCtrl_of_reserved fun hr => by rw [ctrlReserved_eq_zero_iff] at hr; omega
  all_goals rw [← ctrlReserved_eq_zero_iff] at hw
  · exact writeCtrl_of_mode_change hw hrun hmode
  · exact (writeCtrl_of_run_kept hw hrun hmode hgw).trans (done_eq_answeredWith rfl ..)
  · exact (writeCtrl_of_stop_kept hw hstop hrun).trans (done_eq_answeredWith rfl ..)
  · exact (writeCtrl_of_start hw hstop hrun).trans (done_eq_answeredWith rfl ..)

/-! ### `STATUS` (R94) and the others (R95) -/

/-- Settles O30: bits 31:2 are 0 below 4 only, and the new value is `STATUS` without the bits of `w`. -/
theorem ctrlWrToStatusClearsOnes : Obligations.CtrlWrToStatusClearsOnes := by
  intro s w
  rw [exec_ctrlWr_status]
  refine ⟨fun hw => ?_, fun hw => ⟨s.status &&& ~~~ w, fun k hk => by simp [hk], ?_⟩⟩
  · exact if_pos fun hr => by rw [statusReserved_eq_zero_iff] at hr; omega
  · have hr : ¬ statusReserved w ≠ 0 := not_not.mpr ((statusReserved_eq_zero_iff w).mpr hw)
    exact (if_neg hr).trans (done_eq_answeredWith rfl [] (clearStatus w s))

/-- Settles O31: two registers take the word as it is, and no number outside the four selects a write. -/
theorem ctrlWrToTheOtherRegisters : Obligations.CtrlWrToTheOtherRegisters := by
  refine fun s w => ⟨?_, ?_, fun a ha => exec_ctrlWr_of_not_writable ha w s⟩
  · rw [exec_ctrlWr_ageLimit]; exact done_eq_answeredWith rfl ..
  · rw [exec_ctrlWr_sweepPeriod]; exact done_eq_answeredWith rfl ..

end Sys2Proof.Machine

/-! ## The interface directory and the slot reads (40_control_ops.md R98, R99; 30_encoding.md R71) -/

namespace Sys2Proof.Machine

/-! ### Operands of `IF_WR` and `IF_RD` -/

theorem reservedA_setWidth (e : IfaceId) : reservedA (e.setWidth 8) = 0 := by
  rw [reservedA_eq_zero_iff, BitVec.toNat_setWidth_of_le (by decide)]
  exact e.isLt

theorem reservedB_ofBool (v : Bool) : reservedB ((BitVec.ofBool v).setWidth 16) = 0 := by
  cases v <;> rfl

theorem flagOfB_ofBool (v : Bool) : flagOfB ((BitVec.ofBool v).setWidth 16) = v := by
  cases v <;> rfl

theorem macOfWords_eq_setWidth (hi lo : Word) : macOfWords hi lo = hi.setWidth 16 ++ lo := by
  rw [macOfWords, BitVec.setWidth_eq_extractLsb' (by decide)]

/-! ### `IF_WR` (R98) -/

/-- `IF_WR` of interface `e`, its reserved header bits 0: the three checks and the write. -/
theorem exec_ifWr_of_iface (e : IfaceId) (en : Bool) (ip hi lo : Word) (s : State) :
    exec (.ifWr (e.setWidth 8) ((BitVec.ofBool en).setWidth 16) ip hi lo) s =
    if s.params.nIf ≤ e.toNat then cmdErr .ifWr .index s
    else if macHiReserved hi ≠ 0 then cmdErr .ifWr .field s
    else if s.running then cmdErr .ifWr .busy s
    else done .ifWr [] (writeIf e { en := en, ip := ip, mac := hi.setWidth 16 ++ lo } s) := by
  simp only [exec, execIfWr, reservedA_setWidth, reservedB_ofBool, ifaceOfA_setWidth, flagOfB_ofBool,
    macOfWords_eq_setWidth, ne_eq, not_true_eq_false, or_self, if_false]

/-- Settles O32: each clause is a branch of `exec_ifWr_of_iface`, and the write reaches slot `e` only. -/
theorem ifWrWritesOneSlot : Obligations.IfWrWritesOneSlot := by
  intro s e en ip hi lo
  simp only [exec_ifWr_of_iface, ne_eq, macHiReserved_eq_zero_iff]
  refine ⟨fun he => ?_, fun he hhi => ?_, fun he hhi hrun => ?_, fun he hhi hstop => ?_⟩
  · exact if_pos he
  · rw [if_neg (not_le.mpr he)]
    exact if_pos (not_lt.mpr hhi)
  · rw [if_neg (not_le.mpr he), if_neg (not_not.mpr hhi)]
    exact if_pos hrun
  · have hrun : ¬ s.running = true := Bool.eq_false_iff.mp hstop
    rw [if_neg (not_le.mpr he), if_neg (not_not.mpr hhi), if_neg hrun]
    refine ⟨_, done_eq_answeredWith rfl .., ?_, fun f hf => ?_⟩
    · rw [PerIface.get_set, if_pos rfl]
    · rw [PerIface.get_set, if_neg (Ne.symm hf)]

/-! ### The words of a slot (20_memory.md R46, 30_encoding.md R71) -/

theorem macLo_eq_setWidth (m : LinkAddr) : macLo m = m.setWidth 32 := (BitVec.setWidth_eq_extractLsb' (by decide)).symm

theorem macHi_eq_setWidth (m : LinkAddr) : macHi m = (m >>> 32).setWidth 32 := by
  ext k hk
  rw [macHi, BitVec.getElem_append, BitVec.getElem_setWidth, BitVec.getLsbD_ushiftRight]
  split
  · exact BitVec.getElem_extractLsb' _
  · rw [BitVec.getLsbD_of_ge m _ (by omega)]; exact BitVec.getElem_zero _

/-- `IFACE` in bits 7:4 and `V` in bit 0. -/
theorem slotFlags_eq_or (v : Bool) (e : IfaceId) :
    slotFlags v e = (e.setWidth 32 <<< 4) ||| (BitVec.ofBool v).setWidth 32 := by
  have zeros (n : Nat) : (0 : BitVec n).setWidth 32 = 0 := BitVec.setWidth_zero ..
  rw [slotFlags, ← BitVec.setWidth_eq ((0 : BitVec 24) ++ e ++ (0 : BitVec 3) ++ BitVec.ofBool v),
    BitVec.setWidth_append_append_append_eq_shiftLeft_setWidth_or, zeros, zeros]
  simp

/-! ### The slot reads (R99; 41_route_table_lpm.md R115, 42_neighbor_cache.md R127, 45_learning_switch.md R193) -/

/-- How a read of slot `k` of a table with `n` slots ends, said for all four tables: with its reserved bits 0
(`¬ c`) it checks the index and answers. -/
theorem slotRead_ends {op : Opcode} {head : Word} {c : Prop} {dec : Decidable c} {n k : Nat} {ws : List Word}
    {s : State} {r : Result} (hhead : head = op.byte ++ (0 : BitVec 24)) (hc : ¬ c)
    (hr : r = if c then cmdErr op .field s else if n ≤ k then cmdErr op .index s else done op ws s) :
    if k < n then r = .next (answeredWith (head :: ws) s) else r = .next (refusedWith op.byte 0x05 s) := by
  rw [if_neg hc] at hr
  split
  · next h => rw [hr, if_neg (not_le.mpr h), done_eq_answeredWith hhead]
  · next h => rw [hr, if_pos (not_lt.mp h), cmdErr_eq_refusedWith, CmdStatus.code]

/-- Settles O33: the four reads end as `slotRead_ends` says, each with the words of its slot. -/
theorem slotReadsGiveTheSlot : Obligations.SlotReadsGiveTheSlot := by
  intro s a e
  -- The high words first: a high word written out is also the low word of a shifted value.
  simp only [← macHi_eq_setWidth, ← stampHi_eq_setWidth, ← slotFlags_eq_or]
  simp only [← macLo_eq_setWidth, ← stampLo_eq_setWidth]
  have hb : ¬ (0 : Half) ≠ 0 := not_not.mpr rfl
  have ha : ¬ (reservedA (e.setWidth 8) ≠ 0 ∨ (0 : Half) ≠ 0) := not_or.mpr ⟨not_not.mpr (reservedA_setWidth e), hb⟩
  have hif := slotRead_ends (op := .ifRd) (r := exec (.ifRd (e.setWidth 8) 0) s) rfl ha rfl
  rw [ifaceOfA_setWidth] at hif
  exact ⟨hif, slotRead_ends (op := .rtRd) rfl hb rfl, slotRead_ends (op := .nbRd) rfl hb rfl,
    slotRead_ends (op := .mtRd) rfl hb rfl⟩

end Sys2Proof.Machine

/-! ## Contiguous masks (41_route_table_lpm.md R112) -/

namespace Sys2Proof.Machine

/-- Contiguity as the statements write it. -/
theorem contiguous_iff {m : Word} : contiguous m = true ↔ ∃ L ≤ 32, m = maskOf L := by
  simp [contiguous, Nat.lt_succ_iff]

/-- Bit `k` of `mask_of(L)` is one of the `L` top ones. -/
theorem getLsbD_maskOf (L : Nat) {k : Nat} (hk : k < 32) : (maskOf L).getLsbD k = decide (32 ≤ k + L) := by
  rw [maskOf, BitVec.getLsbD_not, BitVec.getLsbD_ushiftRight, BitVec.getLsbD_allOnes]
  simp only [hk, decide_true, Bool.true_and, ← decide_not, not_lt, Nat.add_comm L]

/-- `L` of the first `n` numbers are among the last `L`. -/
theorem countP_range_le_add {n L : Nat} (h : L ≤ n) : (List.range n).countP (fun k => decide (n ≤ k + L)) = L := by
  obtain ⟨m, rfl⟩ := Nat.exists_eq_add_of_le' h
  have low : (List.range m).countP (fun k => decide (m + L ≤ k + L)) = 0 :=
    List.countP_eq_zero.mpr fun k hk => by simpa using List.mem_range.mp hk
  have high : (List.range L).countP ((fun k => decide (m + L ≤ k + L)) ∘ (m + ·)) = (List.range L).length :=
    List.countP_eq_length.mpr fun k _ => by simp
  rw [List.range_add, List.countP_append, List.countP_map, low, high, List.length_range, Nat.zero_add]

theorem maskLen_maskOf {L : Nat} (hL : L ≤ 32) : maskLen (maskOf L) = L := by
  refine Eq.trans (List.countP_congr fun k hk => ?_) (countP_range_le_add hL)
  rw [getLsbD_maskOf L (List.mem_range.mp hk)]

/-- The complement of `mask_of(L)` holds the `32 - L` low ones. -/
theorem toNat_not_maskOf_add_one {L : Nat} (hL : L ≤ 32) : (~~~ maskOf L).toNat + 1 = 2 ^ (32 - L) := by
  have hshift : (2 ^ 32 - 1) >>> L = 2 ^ (32 - L) - 1 := Nat.eq_of_testBit_eq fun k => by
    rw [Nat.testBit_shiftRight, Nat.testBit_two_pow_sub_one, Nat.testBit_two_pow_sub_one, decide_eq_decide]
    omega
  rw [maskOf, BitVec.not_not, BitVec.toNat_ushiftRight, BitVec.toNat_allOnes, hshift]
  exact Nat.sub_add_cancel Nat.one_le_two_pow

theorem maskOf_toNat_lt_iff {L K : Nat} (hL : L ≤ 32) (hK : K ≤ 32) :
    (maskOf L).toNat < (maskOf K).toNat ↔ L < K := by
  have hpow : 2 ^ (32 - K) < 2 ^ (32 - L) ↔ 32 - K < 32 - L := Nat.pow_lt_pow_iff_right (by decide)
  have hcL := toNat_not_maskOf_add_one hL
  have hcK := toNat_not_maskOf_add_one hK
  rw [BitVec.toNat_not] at hcL hcK
  have := (maskOf L).isLt
  have := (maskOf K).isLt
  omega

/-- A mask is contiguous when its complement is one below a power of two. -/
theorem contiguous_iff_isPowerOfTwo {m : Word} : contiguous m = true ↔ ((~~~ m).toNat + 1).isPowerOfTwo := by
  rw [contiguous_iff]
  constructor
  · rintro ⟨L, hL, rfl⟩
    exact ⟨32 - L, toNat_not_maskOf_add_one hL⟩
  · rintro ⟨j, hj⟩
    have hpow : 2 ^ j ≤ 2 ^ 32 := hj.symm.trans_le (~~~ m).isLt
    have hj32 : j ≤ 32 := (Nat.pow_le_pow_iff_right Nat.one_lt_two).mp hpow
    have hL := toNat_not_maskOf_add_one (Nat.sub_le 32 j)
    rw [Nat.sub_sub_self hj32, ← hj] at hL
    exact ⟨32 - j, Nat.sub_le 32 j, BitVec.not_inj.mp (BitVec.eq_of_toNat_eq (Nat.succ.inj hL.symm))⟩

/-- A word shares no bit with its successor exactly when it is one below a power of two; the successor of all
ones wraps to 0. -/
theorem and_add_one_eq_zero_iff {x : Word} : x &&& (x + 1) = 0 ↔ (x.toNat + 1).isPowerOfTwo := by
  rw [← BitVec.toNat_inj, BitVec.toNat_and, BitVec.toNat_add, Nat.and_comm]
  by_cases hwrap : x.toNat + 1 = 2 ^ 32
  · exact iff_of_true (by simp [hwrap]) ⟨32, hwrap⟩
  · have hfits : x.toNat + 1 < 2 ^ 32 := Nat.lt_of_le_of_ne x.isLt hwrap
    have htest := Nat.and_sub_one_eq_zero_iff_isPowerOfTwo (Nat.succ_ne_zero x.toNat)
    have hsucc : (x.toNat + (1 : Word).toNat) % 2 ^ 32 = x.toNat + 1 := Nat.mod_eq_of_lt hfits
    rwa [hsucc]

/-- Settles O37: both the complement test and contiguity say that the complement is one below a power of two. -/
theorem contiguousMasks : Obligations.ContiguousMasks := by
  refine ⟨fun L hL => ⟨fun k hk => getLsbD_maskOf L hk, contiguous_iff.mpr ⟨L, hL, rfl⟩, maskLen_maskOf hL⟩,
    fun L hL K hK => maskOf_toNat_lt_iff hL hK, fun m => ?_⟩
  rw [contiguous_iff_isPowerOfTwo, and_add_one_eq_zero_iff]

end Sys2Proof.Machine

/-! ## The longest match (41_route_table_lpm.md R110, R113, R118) -/

namespace Sys2Proof.Machine

/-! ### The slot that wins -/

/-- Slot `i` is chosen over slot `j` when both match: its mask is longer, or as long and `i` is not above `j`
(R110, R113). `lpm_eq_some_iff` ties it to `lpm`. -/
def State.Preferred (s : State) (i j : Nat) : Prop :=
  maskLen (s.rtAt j).mask < maskLen (s.rtAt i).mask ∨
  (maskLen (s.rtAt j).mask = maskLen (s.rtAt i).mask ∧ i ≤ j)

theorem State.Preferred.refl (s : State) (i : Nat) : s.Preferred i i := .inr ⟨rfl, le_rfl⟩

theorem State.Preferred.of_le {s : State} {i j : Nat} (hlen : maskLen (s.rtAt j).mask ≤ maskLen (s.rtAt i).mask)
    (htie : maskLen (s.rtAt i).mask ≤ maskLen (s.rtAt j).mask → i ≤ j) : s.Preferred i j := by
  rcases hlen.lt_or_eq with hlt | heq
  · exact .inl hlt
  · exact .inr ⟨heq, htie heq.ge⟩

theorem State.Preferred.maskLen_le {s : State} {i j : Nat} (h : s.Preferred i j) :
    maskLen (s.rtAt j).mask ≤ maskLen (s.rtAt i).mask := h.elim Nat.le_of_lt fun h => h.1.le

theorem State.Preferred.antisymm {s : State} {i j : Nat} (hij : s.Preferred i j) (hji : s.Preferred j i) : i = j := by
  unfold State.Preferred at hij hji
  omega

/-- The first hit in an ordered list stands before every other hit. -/
theorem find?_rel_of_pairwise {α : Type} {R : α → α → Prop} {l : List α} {P : α → Bool} {x : α} (hl : l.Pairwise R)
    (hrefl : R x x) (hx : l.find? P = some x) {y : α} (hy : y ∈ l) (hPy : P y = true) : R x y := by
  obtain ⟨-, as, bs, rfl, has⟩ := List.find?_eq_some_iff_append.mp hx
  obtain ⟨-, hbs, -⟩ := List.pairwise_append.mp hl
  rcases List.mem_append.mp hy with hy | hy
  · exact absurd (has y hy) (by simp [hPy])
  · rcases List.mem_cons.mp hy with rfl | hy
    · exact hrefl
    · exact List.rel_of_pairwise_cons hbs hy

theorem lpmMatches_pairwise (s : State) (d : Word) : (s.lpmMatches d).Pairwise (· ≤ ·) :=
  (List.pairwise_lt_range.imp Nat.le_of_lt).filter _

theorem longestMask_eq_max (s : State) {M : List Nat} (hM : M.map (fun i => maskLen (s.rtAt i).mask) ≠ []) :
    s.longestMask M = (M.map fun i => maskLen (s.rtAt i).mask).max hM := by
  rw [State.longestMask, List.foldl_max_eq_max hM, Nat.zero_max]

theorem le_longestMask (s : State) {M : List Nat} {i : Nat} (hi : i ∈ M) :
    maskLen (s.rtAt i).mask ≤ s.longestMask M := by
  have hmem := List.mem_map_of_mem (f := fun i => maskLen (s.rtAt i).mask) hi
  rw [longestMask_eq_max s (List.ne_nil_of_mem hmem)]
  exact List.le_max_of_mem hmem

theorem exists_maskLen_eq_longestMask (s : State) {M : List Nat} (hM : M ≠ []) :
    ∃ i ∈ M, maskLen (s.rtAt i).mask = s.longestMask M := by
  have hne : M.map (fun i => maskLen (s.rtAt i).mask) ≠ [] := by simpa using hM
  rw [longestMask_eq_max s hne]
  exact List.mem_map.mp (List.max_mem hne)

theorem lpm_eq_none_iff {s : State} {d : Word} : s.lpm d = none ↔ ∀ i, i ∉ s.lpmMatches d := by
  rw [← List.eq_nil_iff_forall_not_mem]
  refine ⟨fun h => ?_, fun h => by simp [State.lpm, h]⟩
  by_contra hM
  obtain ⟨i, hi, hlen⟩ := exists_maskLen_eq_longestMask s hM
  exact List.find?_eq_none.mp h i hi (by simp [hlen])

theorem lpm_preferred {s : State} {d : Word} {i j : Nat} (h : s.lpm d = some i) (hj : j ∈ s.lpmMatches d) :
    s.Preferred i j := by
  have hi : maskLen (s.rtAt i).mask = s.longestMask (s.lpmMatches d) := by simpa using List.find?_some h
  refine .of_le (hi ▸ le_longestMask s hj) fun hge => ?_
  have hlongest := (le_longestMask s hj).antisymm (hi ▸ hge)
  exact find?_rel_of_pairwise (lpmMatches_pairwise s d) le_rfl h hj (beq_iff_eq.mpr hlongest)

/-- `lpm` answers the one slot of `M` that is preferred to all of `M`. -/
theorem lpm_eq_some_iff {s : State} {d : Word} {i : Nat} :
    s.lpm d = some i ↔ i ∈ s.lpmMatches d ∧ ∀ j ∈ s.lpmMatches d, s.Preferred i j := by
  refine ⟨fun h => ⟨lpm_mem h, fun j hj => lpm_preferred h hj⟩, fun ⟨hi, hbest⟩ => ?_⟩
  cases hk : s.lpm d with
  | none => exact absurd hi (lpm_eq_none_iff.mp hk i)
  | some k => rw [(hbest k (lpm_mem hk)).antisymm (lpm_preferred hk hi)]

/-- Settles O36: `mem_lpmMatches` says what `matching` says. -/
theorem lpmIsLongestThenLowest : Obligations.LpmIsLongestThenLowest := by
  intro s d
  have hmem (i : Nat) : i ∈ s.lpmMatches d ↔ i < s.params.rtDepth ∧ (s.rtAt i).v = true ∧
      d &&& (s.rtAt i).mask = (s.rtAt i).pfx &&& (s.rtAt i).mask := by
    rw [mem_lpmMatches, rtMatches, beq_iff_eq]
  simp only [← hmem]
  exact ⟨lpm_eq_none_iff, fun i => lpm_eq_some_iff⟩

/-! ### The sorted scan (R118) -/

/-- The sort is stable, so slots stand in it by preference. -/
theorem sortedSlots_pairwise (s : State) : s.sortedSlots.Pairwise s.Preferred := by
  rw [State.sortedSlots, ← List.mergeSort_zipIdx, List.pairwise_map]
  refine (List.pairwise_mergeSort (List.zipIdxLE_trans ?_) (List.zipIdxLE_total ?_) _).imp_of_mem ?_
  · intro i j k hij hjk
    simp only [decide_eq_true_eq] at *
    omega
  · intro i j
    simp only [Bool.or_eq_true, decide_eq_true_eq]
    omega
  · intro p q hp hq hpq
    have hindex {p : Nat × Nat} (hp : p ∈ (List.range s.params.rtDepth).zipIdx) : p.1 = p.2 := by
      obtain ⟨-, -, h⟩ := List.mem_zipIdx (x := p.1) (i := p.2) hp
      simpa using h
    have hp := hindex (List.mem_mergeSort.mp hp)
    have hq := hindex (List.mem_mergeSort.mp hq)
    simp only [List.zipIdxLE, decide_eq_true_eq] at hpq
    split at hpq
    case isTrue hlen =>
      refine .of_le hlen fun htie => ?_
      rw [hp, hq]
      exact of_decide_eq_true ((if_pos htie).symm.trans hpq)
    case isFalse => cases hpq

theorem lpm_eq_sortedScan (s : State) (d : Word) :
    s.lpm d = s.sortedSlots.find? (fun i => (s.rtAt i).v && rtMatches (s.rtAt i) d) := by
  have hmem (i : Nat) : i ∈ s.lpmMatches d ↔ i ∈ s.sortedSlots ∧ ((s.rtAt i).v && rtMatches (s.rtAt i) d) = true := by
    rw [mem_lpmMatches, State.sortedSlots, List.mem_mergeSort, List.mem_range, Bool.and_eq_true]
  cases hr : s.sortedSlots.find? (fun i => (s.rtAt i).v && rtMatches (s.rtAt i) d) with
  | none =>
    refine lpm_eq_none_iff.mpr fun i hi => ?_
    obtain ⟨hsorted, hmatch⟩ := (hmem i).mp hi
    exact List.find?_eq_none.mp hr i hsorted hmatch
  | some i =>
    have hmatch := List.find?_some (p := fun i => (s.rtAt i).v && rtMatches (s.rtAt i) d) hr
    refine lpm_eq_some_iff.mpr ⟨(hmem i).mpr ⟨List.mem_of_find?_eq_some hr, hmatch⟩, fun j hj => ?_⟩
    obtain ⟨hsorted, hmatch⟩ := (hmem j).mp hj
    exact find?_rel_of_pairwise (sortedSlots_pairwise s) (.refl s i) hr hsorted hmatch

/-! ### The single pass (R118) -/

section
variable {d : Word} {x : RtSlot} {xs : List RtSlot} {j : Nat}

theorem lpmScan_cons_of_no_match {best : Option (Nat × Nat)} (hx : ¬ (x.v = true ∧ rtMatches x d = true)) :
    lpmScan d (x :: xs) j best = lpmScan d xs (j + 1) best := by
  have hx : (x.v && rtMatches x d) = false := by simpa using hx
  simp [lpmScan, hx]

theorem lpmScan_cons_of_first (hv : x.v = true) (hm : rtMatches x d = true) :
    lpmScan d (x :: xs) j none = lpmScan d xs (j + 1) (some (j, maskLen x.mask)) := by
  simp [lpmScan, hv, hm]

theorem lpmScan_cons_of_match {i L : Nat} (hv : x.v = true) (hm : rtMatches x d = true) :
    lpmScan d (x :: xs) j (some (i, L)) =
      lpmScan d xs (j + 1) (if L < maskLen x.mask then some (j, maskLen x.mask) else some (i, L)) := by
  simp [lpmScan, hv, hm]

end

/-- What the pass holds before it reads slot `n`: the winner among the slots below `n`, with its mask length. -/
def State.BestBelow (s : State) (d : Word) (n : Nat) : Option (Nat × Nat) → Prop
  | none => ∀ k ∈ s.lpmMatches d, n ≤ k
  | some (i, L) => i < n ∧ L = maskLen (s.rtAt i).mask ∧ i ∈ s.lpmMatches d ∧
      ∀ k ∈ s.lpmMatches d, k < n → s.Preferred i k

namespace State.BestBelow

variable {s : State} {d : Word} {n i L : Nat} {best : Option (Nat × Nat)}

theorem skip (hn : n ∉ s.lpmMatches d) (h : s.BestBelow d n best) : s.BestBelow d (n + 1) best := by
  have hne {k : Nat} (hk : k ∈ s.lpmMatches d) : k ≠ n := ne_of_mem_of_not_mem hk hn
  cases best with
  | none => exact fun k hk => Nat.lt_of_le_of_ne (h k hk) (hne hk).symm
  | some p =>
    obtain ⟨hi, hL, hmem, hbest⟩ := h
    exact ⟨Nat.lt_succ_of_lt hi, hL, hmem,
      fun k hk hlt => hbest k hk (Nat.lt_of_le_of_ne (Nat.le_of_lt_succ hlt) (hne hk))⟩

/-- The slot read becomes the winner when it is preferred to every match below it. -/
theorem take (hn : n ∈ s.lpmMatches d) (h : ∀ k ∈ s.lpmMatches d, k < n → s.Preferred n k) :
    s.BestBelow d (n + 1) (some (n, maskLen (s.rtAt n).mask)) := by
  refine ⟨Nat.lt_succ_self n, rfl, hn, fun k hk hlt => ?_⟩
  rcases (Nat.le_of_lt_succ hlt).lt_or_eq with hlt | rfl
  · exact h k hk hlt
  · exact .refl s k

theorem take_first (hn : n ∈ s.lpmMatches d) (h : s.BestBelow d n none) :
    s.BestBelow d (n + 1) (some (n, maskLen (s.rtAt n).mask)) :=
  take hn fun k hk hlt => absurd hlt (not_lt.mpr (h k hk))

theorem take_longer_or_keep (hn : n ∈ s.lpmMatches d) (h : s.BestBelow d n (some (i, L))) :
    s.BestBelow d (n + 1)
      (if L < maskLen (s.rtAt n).mask then some (n, maskLen (s.rtAt n).mask) else some (i, L)) := by
  obtain ⟨hi, rfl, hmem, hbest⟩ := h
  split
  case isTrue hlonger =>
    exact take hn fun k hk hlt => .inl ((hbest k hk hlt).maskLen_le.trans_lt hlonger)
  case isFalse hshorter =>
    refine ⟨Nat.lt_succ_of_lt hi, rfl, hmem, fun k hk hlt => ?_⟩
    rcases (Nat.le_of_lt_succ hlt).lt_or_eq with hlt | rfl
    · exact hbest k hk hlt
    · exact .of_le (not_lt.mp hshorter) fun _ => hi.le

/-- The pass over the rest of the table keeps the invariant. -/
theorem after_lpmScan {xs : List RtSlot} (hlen : s.rt.length = s.params.rtDepth) (hxs : s.rt.drop n = xs)
    (h : s.BestBelow d n best) : s.BestBelow d (n + xs.length) (lpmScan d xs n best) := by
  induction xs generalizing n best with
  | nil => exact h
  | cons x xs ih =>
    have hget : s.rt[n]? = some x := by rw [← List.head?_drop, hxs, List.head?_cons]
    have hx : s.rtAt n = x := by rw [State.rtAt, List.getD_eq_getElem?_getD, hget, Option.getD_some]
    have hn : n < s.params.rtDepth := hlen ▸ (List.getElem?_eq_some_iff.mp hget).1
    have hdrop : s.rt.drop (n + 1) = xs := by rw [← List.tail_drop, hxs, List.tail_cons]
    rw [List.length_cons, Nat.add_comm xs.length, ← Nat.add_assoc]
    by_cases hmatch : x.v = true ∧ rtMatches x d = true
    · have hmem : n ∈ s.lpmMatches d := mem_lpmMatches.mpr ⟨hn, hx ▸ hmatch⟩
      obtain ⟨hv, hm⟩ := hmatch
      subst hx
      cases best with
      | none => rw [lpmScan_cons_of_first hv hm]; exact ih hdrop (take_first hmem h)
      | some p => rw [lpmScan_cons_of_match hv hm]; exact ih hdrop (take_longer_or_keep hmem h)
    · have hmem : n ∉ s.lpmMatches d := fun hmem => hmatch (hx ▸ (mem_lpmMatches.mp hmem).2)
      rw [lpmScan_cons_of_no_match hmatch]
      exact ih hdrop (skip hmem h)

/-- What a pass over the whole table holds is the lookup. -/
theorem lpm_eq (h : s.BestBelow d s.params.rtDepth best) : s.lpm d = best.map Prod.fst := by
  have hlt {k : Nat} (hk : k ∈ s.lpmMatches d) : k < s.params.rtDepth := (mem_lpmMatches.mp hk).1
  cases best with
  | none => exact lpm_eq_none_iff.mpr fun k hk => absurd (hlt hk) (not_lt.mpr (h k hk))
  | some p =>
    obtain ⟨-, -, hmem, hbest⟩ := h
    exact lpm_eq_some_iff.mpr ⟨hmem, fun k hk => hbest k hk (hlt hk)⟩

end State.BestBelow

/-- Settles O38: both scans answer the preferred slot of `M`. -/
theorem lpmEqualsSortedScan : Obligations.LpmEqualsSortedScan := by
  refine fun s d => ⟨lpm_eq_sortedScan s d, fun hlen => State.BestBelow.lpm_eq ?_⟩
  have hstart : s.BestBelow d 0 none := fun k _ => Nat.zero_le k
  have hend := hstart.after_lpmScan hlen List.drop_zero
  rwa [Nat.zero_add, hlen] at hend

end Sys2Proof.Machine

/-! ## The descriptors of the route table (41_route_table_lpm.md R114, R116, R117; 42_neighbor_cache.md R128) -/

namespace Sys2Proof.Machine

/-! ### `RT_WR` (R114) -/

/-- Field `b` of `RT_WR` with its reserved bits 0 (30_encoding.md R62): interface, reserved bits and flag. -/
theorem rtWr_fields (f : IfaceId) (v : Bool) :
    let b : Half := (f.setWidth 16 <<< 4) ||| (BitVec.ofBool v).setWidth 16
    reservedBLow b = 0 ∧ reservedBHigh b = 0 ∧ ifaceOfB b = f ∧ flagOfB b = v := by
  cases v <;> revert f <;> decide

/-- `RT_WR` with its reserved header bits 0: the three checks and the write. -/
theorem exec_rtWr_of_fields (a : Byte) (v : Bool) (f : IfaceId) (pfx mask nextHop : Word) (s : State) :
    exec (.rtWr a ((f.setWidth 16 <<< 4) ||| (BitVec.ofBool v).setWidth 16) pfx mask nextHop) s =
    if s.params.rtDepth ≤ a.toNat then cmdErr .rtWr .index s
    else if ¬ (v = true → contiguous mask = true ∧ f.toNat < s.params.nIf) then cmdErr .rtWr .field s
    else if s.running then cmdErr .rtWr .busy s
    else done .rtWr [] (writeRt a.toNat { v := v, pfx := pfx, mask := mask, nextHop := nextHop, iface := f } s) := by
  obtain ⟨hlow, hhigh, hf, hv⟩ := rtWr_fields f v
  simp only [exec, execRtWr, hlow, hhigh, hf, hv, ne_eq, not_true_eq_false, or_self, if_false]
  by_cases hmask : v = true ∧ ¬ contiguous mask = true
  · have hillegal : ¬ (v = true → contiguous mask = true ∧ f.toNat < s.params.nIf) := fun hlegal =>
      let ⟨hvalid, hholes⟩ := hmask
      hholes (hlegal hvalid).1
    rw [if_pos hmask, if_pos hillegal]
  · have hiface : (v = true ∧ s.params.nIf ≤ f.toNat) ↔
        ¬ (v = true → contiguous mask = true ∧ f.toNat < s.params.nIf) := by
      rw [not_and_not_right] at hmask
      rw [Classical.not_imp]
      exact and_congr_right fun h => by rw [not_and, not_lt]; exact ⟨fun hn _ => hn, fun hn => hn (hmask h)⟩
    rw [if_neg hmask]
    simp only [hiface]

/-- Settles O34: each clause is a branch of `exec_rtWr_of_fields`, and the write reaches slot `a` only. -/
theorem rtWrWritesOneSlot : Obligations.RtWrWritesOneSlot := by
  intro s a v f pfx mask nextHop
  simp only [exec_rtWr_of_fields, ← contiguous_iff]
  refine ⟨fun ha => ?_, fun ha hillegal => ?_, fun ha hlegal hrun => ?_, fun ha hlegal hstop hlen => ?_⟩
  · exact if_pos ha
  · rw [if_neg (not_le.mpr ha)]
    exact if_pos hillegal
  · rw [if_neg (not_le.mpr ha), if_neg (not_not.mpr hlegal)]
    exact if_pos hrun
  · have hrun : ¬ s.running = true := Bool.eq_false_iff.mp hstop
    rw [if_neg (not_le.mpr ha), if_neg (not_not.mpr hlegal), if_neg hrun]
    exact ⟨_, done_eq_answeredWith rfl .., List.length_set, List.getElem?_set_self (hlen ▸ ha),
      fun k hk => List.getElem?_set_ne hk.symm⟩

/-! ### `RT_CLR` and `NB_CLR` (R116, R128) -/

theorem lpm_clearRt (s : State) (d : Word) : (clearRt s).lpm d = none := by
  refine lpm_eq_none_iff.mpr fun i hi => ?_
  obtain ⟨-, hv, -⟩ := mem_lpmMatches.mp hi
  simp [rtAt_clearRt, RtSlot.empty] at hv

theorem nbLookup_clearNb (s : State) (x : Word) : (clearNb s).nbLookup x = none :=
  List.find?_eq_none.mpr fun i _ => by simp [nbAt_clearNb, NbSlot.empty]

/-- Settles O35: both answer from the cleared table, whose slots are all empty. -/
theorem clearsEmptyTheirTable : Obligations.ClearsEmptyTheirTable := by
  refine fun s => ⟨fun hrun => ⟨if_pos hrun, if_pos hrun⟩, fun hstop => ?_⟩
  have hrun : ¬ s.running = true := Bool.eq_false_iff.mp hstop
  refine ⟨⟨(clearRt s).rt, ?_, List.length_replicate, fun x => List.eq_of_mem_replicate, lpm_clearRt s⟩,
    ⟨(clearNb s).nb, ?_, List.length_replicate, fun x => List.eq_of_mem_replicate, nbLookup_clearNb s⟩⟩
  · exact (if_neg hrun).trans (done_eq_answeredWith (op := .rtClr) rfl [] (clearRt s))
  · exact (if_neg hrun).trans (done_eq_answeredWith (op := .nbClr) rfl [] (clearNb s))

/-! ### `RT_LKUP` (R117) -/

/-- `HIT` in bit 31, `IDX` in bits 23:16, `IFACE` in bits 7:4 (30_encoding.md R72). -/
theorem hitWord_eq_or (idx : Nat) (e : IfaceId) :
    hitWord idx e = 0x80000000 ||| ((BitVec.ofNat 8 idx).setWidth 32 <<< 16) ||| (e.setWidth 32 <<< 4) := by
  have zeros (n : Nat) : (0 : BitVec n).setWidth 32 = 0#32 := BitVec.setWidth_zero ..
  have one : (1 : BitVec 1).setWidth 32 <<< 31 = (0x80000000 : Nat) := by decide
  have hwide : hitWord idx e = ((1 : BitVec 1) ++ (0 : BitVec 7) ++ BitVec.ofNat 8 idx ++ (0 : Byte) ++ e ++
      (0 : BitVec 4)).setWidth 32 := (BitVec.setWidth_eq _).symm
  rw [hwide]
  -- The widths stay sums until the fields stand apart.
  simp only [BitVec.setWidth_append_eq_shiftLeft_setWidth_or, BitVec.shiftLeft_or_distrib, ← BitVec.shiftLeft_add]
  simp only [Nat.reduceAdd, zeros, one, BitVec.zero_shiftLeft, BitVec.or_zero]

/-- Settles O39: the meaning answers with the words of the slot that `lpm` finds. -/
theorem rtLkupReportsLpm : Obligations.RtLkupReportsLpm := by
  refine fun s d => ⟨fun hmiss => ?_, fun i hhit => ?_⟩
  · have hdone : exec (.rtLkup 0 0 d) s = done .rtLkup [0, 0, 0, 0] s := by simp [exec, execRtLkup, hmiss]
    exact hdone.trans (done_eq_answeredWith rfl ..)
  · have hdone : exec (.rtLkup 0 0 d) s = done .rtLkup
        [hitWord i (s.rtAt i).iface, (s.rtAt i).nextHop, (s.rtAt i).pfx, (s.rtAt i).mask] s := by
      simp [exec, execRtLkup, hhit]
    rw [hdone, hitWord_eq_or]
    exact done_eq_answeredWith rfl ..

end Sys2Proof.Machine

/-! ## The neighbour cache (42_neighbor_cache.md R125, R126, R129, R130) -/

namespace Sys2Proof.Machine

/-! ### `NB_WR` (R126) -/

/-- `NB_WR` with its reserved header bits 0: the three checks and the write. -/
theorem exec_nbWr_of_flag (a : Byte) (v : Bool) (ip hi lo : Word) (s : State) :
    exec (.nbWr a ((BitVec.ofBool v).setWidth 16) ip hi lo) s =
    if s.params.nbDepth ≤ a.toNat then cmdErr .nbWr .index s
    else if macHiReserved hi ≠ 0 then cmdErr .nbWr .field s
    else if s.running then cmdErr .nbWr .busy s
    else done .nbWr [] (writeNb a.toNat { v := v, ip := ip, mac := hi.setWidth 16 ++ lo } s) := by
  simp only [exec, execNbWr, reservedB_ofBool, flagOfB_ofBool, macOfWords_eq_setWidth, ne_eq, not_true_eq_false,
    if_false]

/-- Settles O40: each clause is a branch of `exec_nbWr_of_flag`, and the write reaches slot `a` only. -/
theorem nbWrWritesOneSlot : Obligations.NbWrWritesOneSlot := by
  intro s a v ip hi lo
  simp only [exec_nbWr_of_flag, ne_eq, macHiReserved_eq_zero_iff]
  refine ⟨fun ha => ?_, fun ha hhi => ?_, fun ha hhi hrun => ?_, fun ha hhi hstop hlen => ?_⟩
  · exact if_pos ha
  · rw [if_neg (not_le.mpr ha)]
    exact if_pos (not_lt.mpr hhi)
  · rw [if_neg (not_le.mpr ha), if_neg (not_not.mpr hhi)]
    exact if_pos hrun
  · have hrun : ¬ s.running = true := Bool.eq_false_iff.mp hstop
    rw [if_neg (not_le.mpr ha), if_neg (not_not.mpr hhi), if_neg hrun]
    exact ⟨_, done_eq_answeredWith rfl .., List.length_set, List.getElem?_set_self (hlen ▸ ha),
      fun k hk => List.getElem?_set_ne (Ne.symm hk)⟩

/-! ### The lookup and its key (R125, R130) -/

theorem nbLookup_eq_none_iff {s : State} {x : Word} :
    s.nbLookup x = none ↔ ∀ i < s.params.nbDepth, ¬ ((s.nbAt i).v = true ∧ (s.nbAt i).ip = x) := by
  simp only [State.nbLookup, List.find?_range_eq_none, Bool.not_eq_true', ← Bool.not_eq_true, Bool.and_eq_true,
    beq_iff_eq]

theorem nbLookup_eq_some_iff {s : State} {x : Word} {i : Nat} :
    s.nbLookup x = some i ↔ (i < s.params.nbDepth ∧ (s.nbAt i).v = true ∧ (s.nbAt i).ip = x) ∧
      ∀ j < i, ¬ ((s.nbAt j).v = true ∧ (s.nbAt j).ip = x) := by
  simp only [State.nbLookup, List.find?_range_eq_some, List.mem_range, Bool.not_eq_true', ← Bool.not_eq_true,
    Bool.and_eq_true, beq_iff_eq]
  rw [← and_assoc, and_comm (a := _ ∧ _) (b := i < _)]

/-- The two conditions for the gateway are one. -/
theorem nbKey_eq_ite (s : State) (r : Nat) (x : Word) :
    s.nbKey r x = if s.gatewayKey = true ∧ (s.rtAt r).nextHop ≠ 0 then (s.rtAt r).nextHop else x := by
  rw [State.nbKey, ite_not, ite_and]

/-- Settles O41: the search over the slot numbers answers the first hit, and `NH_GW` is bit 3 of `CTRL`. -/
theorem neighborLookupAndKey : Obligations.NeighborLookupAndKey :=
  fun s x => ⟨nbLookup_eq_none_iff, fun _ => nbLookup_eq_some_iff, fun r => nbKey_eq_ite s r x⟩

/-! ### `NB_LKUP` (R129) -/

/-- Without an interface the result word holds `HIT` and `IDX` only (30_encoding.md R72). -/
theorem hitWord_zero (idx : Nat) : hitWord idx 0 = 0x80000000 ||| ((BitVec.ofNat 8 idx).setWidth 32 <<< 16) := by
  have hiface : (0 : IfaceId).setWidth 32 <<< 4 = 0#32 := by decide
  rw [hitWord_eq_or, hiface, BitVec.or_zero]

/-- Settles O42: the meaning answers with the words of the slot that `nb_lookup` finds. -/
theorem nbLkupReportsNbLookup : Obligations.NbLkupReportsNbLookup := by
  refine fun s x => ⟨fun hmiss => ?_, fun i hhit => ?_⟩
  · have hdone : exec (.nbLkup 0 0 x) s = done .nbLkup [0, 0, 0] s := by simp [exec, execNbLkup, hmiss]
    exact hdone.trans (done_eq_answeredWith rfl ..)
  · have hdone : exec (.nbLkup 0 0 x) s = done .nbLkup
        [hitWord i 0, macHi (s.nbAt i).mac, macLo (s.nbAt i).mac] s := by simp [exec, execNbLkup, hhit]
    rw [hdone, hitWord_zero, macHi_eq_setWidth, macLo_eq_setWidth]
    exact done_eq_answeredWith rfl ..

end Sys2Proof.Machine

/-! ## The end-around carry fold (43_checksum.md R135) -/

namespace Sys2Proof.Machine

/-- A turn of the loop keeps the sum modulo 65535 and never takes it to 0. -/
theorem foldCarry_of_le {fuel S : Nat} (h : S ≤ fuel) :
    foldCarry fuel S = if S = 0 then 0 else 1 + (S - 1) % 65535 := by
  induction fuel generalizing S with
  | zero => rw [Nat.le_zero.mp h]; rfl
  | succ fuel ih =>
    rw [foldCarry]
    split
    · split <;> omega
    · rw [ih (by omega), if_neg (by omega), if_neg (by omega)]
      omega

/-- Settles O43: `S` turns are enough for `S`. -/
theorem foldedSumClosedForm : Obligations.FoldedSumClosedForm := fun _ => foldCarry_of_le le_rfl

theorem foldSum_le (S : Nat) : foldSum S ≤ 65535 := by
  rw [foldedSumClosedForm]
  split <;> omega

theorem foldSum_eq_zero_iff {S : Nat} : foldSum S = 0 ↔ S = 0 := by
  rw [foldedSumClosedForm]
  split <;> omega

/-- The sum with the complement of its fold added folds to all ones (R136 (d)). -/
theorem foldSum_add_complement (S : Nat) : foldSum (S + (65535 - foldSum S)) = 65535 := by
  rw [foldedSumClosedForm S, foldedSumClosedForm]
  split <;> split <;> omega

/-- Sums that differ by less than 65535 fold to different values. -/
theorem foldSum_ne_of_lt {S T : Nat} (hlt : S < T) (hnear : T < S + 65535) : foldSum S ≠ foldSum T := by
  rw [foldedSumClosedForm S, foldedSumClosedForm T]
  split <;> split <;> omega

/-! ### `cksum` and the folded sum -/

theorem toNat_cksum (B : List Byte) : (cksum B).toNat = 65535 - foldSum (wordSum B) := by
  rw [cksum, BitVec.toNat_ofNat]
  exact Nat.mod_eq_of_lt (by omega)

theorem cksum_eq_iff {B : List Byte} {v : Half} : cksum B = v ↔ foldSum (wordSum B) + v.toNat = 65535 := by
  have := foldSum_le (wordSum B)
  rw [← BitVec.toNat_inj, toNat_cksum]
  omega

theorem cksum_congr {A B : List Byte} (h : wordSum A = wordSum B) : cksum A = cksum B := by
  rw [cksum, h, cksum]

end Sys2Proof.Machine

/-! ## The sum of the 16-bit words (43_checksum.md R135, R136) -/

namespace Sys2Proof.Machine

theorem wordSum_eq_zero_iff (B : List Byte) : wordSum B = 0 ↔ ∀ x ∈ B, x = 0 := by
  have hbyte (x : Byte) : x = 0#8 ↔ x.toNat = 0 := BitVec.toNat_inj.symm
  induction B using wordSum.induct with
  | case1 => simp [wordSum]
  | case2 x => simp [wordSum, hbyte]
  | case3 x y rest ih => simp [wordSum, ih, hbyte, and_assoc]

/-- A zero byte at the end is the padding of an odd length, or a word's high byte. -/
theorem wordSum_append_zero (B : List Byte) : wordSum (B ++ [0]) = wordSum B := by
  induction B using wordSum.induct with
  | case1 => rfl
  | case2 x => rfl
  | case3 x y rest ih => simp only [List.cons_append, wordSum, ih]

/-! ### Words and their bytes -/

/-- The two bytes of a word, the high one first, are the word. -/
theorem extractLsb'_append_bytes (v : Half) : v.extractLsb' 8 8 ++ v.extractLsb' 0 8 = v := by
  rw [BitVec.extractLsb'_append_extractLsb'_eq_extractLsb' (Nat.zero_add 8).symm]
  exact BitVec.extractLsb'_eq_self

theorem toNat_append_byte (x y : Byte) : (x ++ y).toNat = 256 * x.toNat + y.toNat := by
  rw [BitVec.toNat_append, ← Nat.shiftLeft_add_eq_or_of_lt y.isLt, Nat.shiftLeft_eq, Nat.mul_comm]

theorem toNat_bytes (v : Half) : 256 * (v.extractLsb' 8 8).toNat + (v.extractLsb' 0 8).toNat = v.toNat := by
  rw [← toNat_append_byte, extractLsb'_append_bytes]

theorem wordSum_flatMap_bytesOf16 (ws : List Half) :
    wordSum (ws.flatMap bytesOf16) = (ws.map BitVec.toNat).sum := by
  induction ws with
  | nil => rfl
  | cons w ws ih =>
    have hcons : (w :: ws).flatMap bytesOf16 = w.extractLsb' 8 8 :: w.extractLsb' 0 8 :: ws.flatMap bytesOf16 := rfl
    rw [hcons, wordSum, toNat_bytes, ih, List.map_cons, List.sum_cons]

/-! ### One byte of the sum -/

/-- What a byte at position `k` counts for in the sum; `wordSum_set` ties it to `wordSum`. -/
def byteWeight (k : Nat) : Nat := if k % 2 = 0 then 256 else 1

theorem byteWeight_of_even {k : Nat} (h : k % 2 = 0) : byteWeight k = 256 := if_pos h

theorem byteWeight_of_odd {k : Nat} (h : k % 2 = 1) : byteWeight k = 1 := if_neg (by omega)

/-- Writing byte `k` exchanges its part of the sum. -/
theorem wordSum_set {B : List Byte} {k : Nat} (hk : k < B.length) (x : Byte) :
    wordSum (B.set k x) + byteWeight k * (byteAt B k).toNat = wordSum B + byteWeight k * x.toNat := by
  induction B using wordSum.induct generalizing k with
  | case1 => exact absurd hk (Nat.not_lt_zero k)
  | case2 y =>
    obtain rfl : k = 0 := Nat.lt_one_iff.mp hk
    exact Nat.add_comm ..
  | case3 y z rest ih =>
    match k with
    | 0 =>
      have hbyte : byteAt (y :: z :: rest) 0 = y := rfl
      rw [hbyte, byteWeight_of_even rfl, List.set_cons_zero, wordSum, wordSum]
      omega
    | 1 =>
      have hbyte : byteAt (y :: z :: rest) 1 = z := rfl
      rw [hbyte, byteWeight_of_odd rfl, List.set_cons_succ, List.set_cons_zero, wordSum, wordSum]
      omega
    | k + 2 =>
      have hrest := ih (k := k) (by simpa using hk)
      have hbyte : byteAt (y :: z :: rest) (k + 2) = byteAt rest k := rfl
      have hweight : byteWeight (k + 2) = byteWeight k := by rw [byteWeight, Nat.add_mod_right, byteWeight]
      rw [hbyte, hweight, List.set_cons_succ, List.set_cons_succ, wordSum, wordSum]
      omega

/-- Changing one byte changes the checksum (R138): the sum moves by at most 255 times 256, which is below
65535. -/
theorem cksum_set_ne {B : List Byte} {k : Nat} {x : Byte} (hk : k < B.length) (hx : x ≠ byteAt B k) :
    cksum (B.set k x) ≠ cksum B := by
  have hset := wordSum_set hk x
  have hne : x.toNat ≠ (byteAt B k).toNat := mt BitVec.toNat_inj.mp hx
  have := x.isLt
  have := (byteAt B k).isLt
  have hfold : foldSum (wordSum (B.set k x)) ≠ foldSum (wordSum B) := by
    obtain hw | hw : byteWeight k = 256 ∨ byteWeight k = 1 :=
      (Nat.mod_two_eq_zero_or_one k).imp byteWeight_of_even byteWeight_of_odd
    all_goals
      rw [hw] at hset
      obtain hlt | hlt := Nat.lt_or_gt_of_ne hne
      · exact foldSum_ne_of_lt (by omega) (by omega)
      · exact (foldSum_ne_of_lt (by omega) (by omega)).symm
  rw [Ne, cksum_eq_iff, toNat_cksum]
  have := foldSum_le (wordSum B)
  omega

/-! ### A word written into a byte string -/

theorem byteAt_set_self {F : Frame} {k : Nat} (hk : k < F.length) (x : Byte) : byteAt (F.set k x) k = x := by
  simp [byteAt, List.getD_eq_getElem?_getD, hk]

theorem byteAt_set_ne {F : Frame} {k j : Nat} (h : k ≠ j) (x : Byte) : byteAt (F.set k x) j = byteAt F j := by
  simp [byteAt, List.getD_eq_getElem?_getD, h]

/-- A write of two bytes is two writes of one byte. -/
theorem writeBytes_pair {F : Frame} {k : Nat} (h : k + 1 < F.length) (x y : Byte) :
    writeBytes F k [x, y] = (F.set k x).set (k + 1) y := by
  have hfit : k + [x, y].length ≤ F.length := h
  refine frame_ext (by simp [length_writeBytes hfit]) fun j => ?_
  rw [byteAt_writeBytes hfit]
  by_cases hlow : j = k + 1
  · subst hlow
    rw [byteAt_set_self (by simpa using h), if_pos (by simp), Nat.add_sub_cancel_left]
    rfl
  rw [byteAt_set_ne (Ne.symm hlow)]
  by_cases hhigh : j = k
  · subst hhigh
    rw [byteAt_set_self (by omega), if_pos (by simp), Nat.sub_self]
    rfl
  · rw [byteAt_set_ne (Ne.symm hhigh)]
    exact if_neg (by simp only [List.length_cons, List.length_nil]; omega)

/-- A word written over two zero bytes at an even position adds its value to the sum. -/
theorem wordSum_writeBytes_bytesOf16 {B : List Byte} {p : Nat} (hp : p % 2 = 0) (hlen : p + 1 < B.length)
    (hhi : byteAt B p = 0) (hlo : byteAt B (p + 1) = 0) (v : Half) :
    wordSum (writeBytes B p (bytesOf16 v)) = wordSum B + v.toNat := by
  have hhigh := wordSum_set (k := p) (B := B) (by omega) (v.extractLsb' 8 8)
  have hlow := wordSum_set (k := p + 1) (B := B.set p (v.extractLsb' 8 8)) (by simpa using hlen) (v.extractLsb' 0 8)
  rw [byteWeight_of_even hp, hhi] at hhigh
  rw [byteWeight_of_odd (by omega), byteAt_set_ne (by omega), hlo] at hlow
  rw [bytesOf16, writeBytes_pair hlen, ← toNat_bytes v]
  simp only [BitVec.ofNat_eq_ofNat, BitVec.toNat_zero] at hhigh hlow
  omega

/-- Settles O44: each property is one of the folded sum or of the sum of the words. -/
theorem checksumProperties : Obligations.ChecksumProperties := by
  refine ⟨fun B => ?_, fun ws us hperm => ?_, fun B => ⟨fun _ => ?_, fun _ => ?_⟩, fun B p _ hp hlen hhi hlo => ?_⟩
  · rw [cksum_eq_iff, ← wordSum_eq_zero_iff, ← foldSum_eq_zero_iff]
    exact Nat.add_eq_right
  · refine cksum_congr ?_
    rw [wordSum_flatMap_bytesOf16, wordSum_flatMap_bytesOf16]
    exact (hperm.map _).sum_eq
  · exact cksum_congr (wordSum_append_zero B)
  · refine cksum_congr ?_
    rw [← List.singleton_append, ← List.append_assoc, wordSum_append_zero, wordSum_append_zero]
  · rw [cksum_eq_iff, wordSum_writeBytes_bytesOf16 hp hlen hhi hlo, toNat_cksum, foldSum_add_complement]
    rfl

end Sys2Proof.Machine

/-! ## The stored checksum of a header (43_checksum.md R137 to R139) -/

namespace Sys2Proof.Machine

theorem hdrValid_iff {H : List Byte} : hdrValid H = true ↔ read16 H 10 = hdrCksum H := beq_iff_eq

theorem zeroChecksum_eq_set {H : List Byte} (h : 12 ≤ H.length) : zeroChecksum H = (H.set 10 0).set 11 0 :=
  writeBytes_pair h 0 0

theorem restamp_eq_set {H : List Byte} (h : 12 ≤ H.length) :
    restamp H = (H.set 10 ((hdrCksum H).extractLsb' 8 8)).set 11 ((hdrCksum H).extractLsb' 0 8) :=
  writeBytes_pair h ..

/-- What stands in bytes 10 and 11 does not count for the computed checksum. -/
theorem zeroChecksum_set_stored {H : List Byte} (h : 12 ≤ H.length) {k : Nat} (hk : k = 10 ∨ k = 11) (x : Byte) :
    zeroChecksum (H.set k x) = zeroChecksum H := by
  rw [zeroChecksum_eq_set h, zeroChecksum_eq_set (by simpa using h)]
  obtain rfl | rfl := hk
  · rw [List.set_set]
  · rw [List.set_comm x 0 (by decide), List.set_set]

theorem zeroChecksum_set_other {H : List Byte} (h : 12 ≤ H.length) {k : Nat} (h10 : k ≠ 10) (h11 : k ≠ 11) (x : Byte) :
    zeroChecksum (H.set k x) = (zeroChecksum H).set k x := by
  rw [zeroChecksum_eq_set h, zeroChecksum_eq_set (by simpa using h), List.set_comm x 0 h10, List.set_comm x 0 h11]

theorem hdrCksum_restamp {H : List Byte} (h : 12 ≤ H.length) : hdrCksum (restamp H) = hdrCksum H := by
  rw [restamp_eq_set h, hdrCksum, zeroChecksum_set_stored (by simpa using h) (.inr rfl),
    zeroChecksum_set_stored h (.inl rfl), ← hdrCksum]

theorem read16_restamp {H : List Byte} (h : 12 ≤ H.length) : read16 (restamp H) 10 = hdrCksum H := by
  rw [restamp_eq_set h, read16, byteAt_set_ne (by decide), byteAt_set_self (by omega),
    byteAt_set_self (by rw [List.length_set]; omega), extractLsb'_append_bytes]

/-- Settles O45: the stored checksum is the computed one, which the write does not move. -/
theorem restampedHeaderIsValid : Obligations.RestampedHeaderIsValid := by
  refine fun H h => ⟨?_, length_writeBytes h, read16_restamp h, fun k h10 h11 => ?_⟩
  · rw [hdrValid_iff, read16_restamp h, hdrCksum_restamp h]
  · rw [restamp_eq_set h, byteAt_set_ne h11.symm, byteAt_set_ne h10.symm]

/-- A change to either byte of a two-byte value changes the value. -/
theorem read16_set_ne {F : Frame} {k : Nat} {x : Byte} (hk : k < F.length) (hx : x ≠ byteAt F k) {p : Nat}
    (hp : k = p ∨ k = p + 1) : read16 (F.set k x) p ≠ read16 F p := by
  have hne : x.toNat ≠ (byteAt F k).toNat := mt BitVec.toNat_inj.mp hx
  rw [Ne, ← BitVec.toNat_inj, read16, read16, toNat_append_byte, toNat_append_byte]
  obtain rfl | rfl := hp
  · rw [byteAt_set_self hk, byteAt_set_ne (by omega)]
    omega
  · rw [byteAt_set_self hk, byteAt_set_ne (by omega)]
    omega

theorem read16_set_other {F : Frame} {k p : Nat} (h0 : k ≠ p) (h1 : k ≠ p + 1) (x : Byte) :
    read16 (F.set k x) p = read16 F p := by
  rw [read16, byteAt_set_ne h0, byteAt_set_ne h1, read16]

/-- Settles O46: a changed byte 10 or 11 moves the stored checksum only, any other byte the computed one only. -/
theorem oneChangedByteInvalidatesHeader : Obligations.OneChangedByteInvalidatesHeader := by
  intro H k x h hk hvalid hx
  rw [hdrValid_iff] at hvalid
  rw [← Bool.not_eq_true, hdrValid_iff]
  by_cases hfield : k = 10 ∨ k = 11
  · rw [hdrCksum, zeroChecksum_set_stored h hfield, ← hdrCksum, ← hvalid]
    exact read16_set_ne hk hx hfield
  · obtain ⟨h10, h11⟩ := not_or.mp hfield
    have hbyte : byteAt (zeroChecksum H) k = byteAt H k := by
      rw [zeroChecksum_eq_set h, byteAt_set_ne (Ne.symm h11), byteAt_set_ne (Ne.symm h10)]
    have hlen : k < (zeroChecksum H).length := by simpa [zeroChecksum_eq_set h] using hk
    rw [read16_set_other h10 h11, hvalid, hdrCksum, hdrCksum, zeroChecksum_set_other h h10 h11]
    exact (cksum_set_ne hlen (hbyte ▸ hx)).symm

end Sys2Proof.Machine

/-! ## `CSUM` and `HDR_VFY` (43_checksum.md R140, R141) -/

namespace Sys2Proof.Machine

theorem zero_append_half (v : Half) : (0 : Half) ++ v = v.setWidth 32 := by
  rw [BitVec.setWidth_eq_append (by decide)]
  rfl

/-- `match` in bit 31, `computed` in bits 15:0. -/
theorem matchWord_eq_or (v : Bool) (c : Half) :
    BitVec.ofBool v ++ (0 : BitVec 15) ++ c = (if v then 0x80000000 else 0) ||| c.setWidth 32 := by
  have hflag : (BitVec.ofBool v).setWidth 32 <<< (15 + 16) = (if v then 0x80000000 else 0 : Word) := by
    cases v <;> rfl
  rw [← BitVec.setWidth_eq (BitVec.ofBool v ++ (0 : BitVec 15) ++ c),
    BitVec.setWidth_append_append_eq_shiftLeft_setWidth_or, hflag]
  simp

theorem exec_csum_of_length_le {B : List Byte} {s : State} (h : B.length ≤ s.params.maxFrame) :
    exec (.csum 0 B) s = done .csum [(0 : Half) ++ cksum B] s :=
  (if_neg (not_lt.mpr h)).trans (if_neg (not_not.mpr rfl))

/-- Settles O47: the byte count is checked before `a`. -/
theorem csumReportsChecksum : Obligations.CsumReportsChecksum := by
  refine fun s B => ⟨fun hlong a => ?_, fun hfit => ?_⟩
  · exact exec_of_length_out_of_range (i := .csum a B) (op := .csum) rfl (not_le.mpr hlong)
  · rw [exec_csum_of_length_le hfit, zero_append_half]
    exact done_eq_answeredWith rfl ..

theorem exec_hdrVfy_of_length {H : List Byte} {s : State} (hmin : 12 ≤ H.length) (hmax : H.length ≤ s.params.maxFrame) :
    exec (.hdrVfy 0 H) s = done .hdrVfy
      [BitVec.ofBool (hdrValid H) ++ (0 : BitVec 15) ++ hdrCksum H, (0 : Half) ++ read16 H 10] s :=
  (if_neg (not_or.mpr ⟨not_lt.mpr hmax, not_lt.mpr hmin⟩)).trans (if_neg (not_not.mpr rfl))

/-- Settles O48: `match` is validity, and the stored bytes replaced by 0 are two writes. -/
theorem hdrVfyReportsBothChecksums : Obligations.HdrVfyReportsBothChecksums := by
  refine fun s H => ⟨fun hrange a => ?_, fun hmin hmax => ?_⟩
  · exact exec_of_length_out_of_range (i := .hdrVfy a H) (op := .hdrVfy) rfl (by simp only [lengthInRange]; omega)
  · rw [exec_hdrVfy_of_length hmin hmax, matchWord_eq_or, zero_append_half]
    simp only [hdrValid_iff, hdrCksum, zeroChecksum_eq_set hmin]
    exact done_eq_answeredWith rfl ..

end Sys2Proof.Machine

/-! ## `FRAME` before the dispatch (44_router_forwarder.md R150; 60_exceptions.md R202, R203) -/

namespace Sys2Proof.Machine

theorem raiseDrop_eq_droppedWith (c : DropCause) (s : State) : raiseDrop c s = droppedWith c.index s := by
  have hword : verdictWord c.code 0 = (BitVec.ofNat 32 (c.index.val + 1) : Word) <<< 24 := by
    cases c <;> rfl
  rw [raiseDrop, hword]
  rfl

/-! ### The ends of the checks -/

/-- The three checks of the descriptor, on `a` as a number: below 16 the interface id is `a` itself. -/
theorem exec_frame_eq (a : Byte) (F : Frame) (s : State) :
    exec (.frame a F) s =
    if s.params.maxFrame < F.length then cmdErr .frame .length s
    else if 16 ≤ a.toNat then cmdErr .frame .field s
    else if s.params.nIf ≤ a.toNat then cmdErr .frame .index s
    else .next (frameStep F (a.setWidth 4) s) := by
  have hreserved : reservedA a ≠ 0 ↔ 16 ≤ a.toNat := by rw [Ne, reservedA_eq_zero_iff, not_lt]
  simp only [exec, execFrame, hreserved]
  split
  · rfl
  split
  · rfl
  next ha =>
  rw [ifaceOfA_toNat (not_le.mp ha), ifaceOfA_eq_setWidth]

theorem exec_frame_of_accepted {a : Byte} {F : Frame} {s : State} (hfit : F.length ≤ s.params.maxFrame)
    (ha : a.toNat < 16) (hif : a.toNat < s.params.nIf) :
    exec (.frame a F) s = .next (frameStep F (a.setWidth 4) s) := by
  rw [exec_frame_eq, if_neg (not_lt.mpr hfit), if_neg (not_le.mpr ha), if_neg (not_le.mpr hif)]

theorem frameStep_of_stopped {s : State} (hrun : s.running = false) (F : Frame) (i : IfaceId) :
    frameStep F i s = droppedWith 8 s := by
  rw [frameStep, if_pos (by simp [hrun]), raiseDrop_eq_droppedWith, DropCause.index]

theorem frameStep_of_unconfigured {s : State} {i : IfaceId} (hrun : s.running = true) (hen : (s.ifAt i).en = false)
    (F : Frame) : frameStep F i s = droppedWith 9 s := by
  rw [frameStep, if_neg (not_not.mpr hrun), if_pos (by simp [hen]), raiseDrop_eq_droppedWith, DropCause.index]

theorem frameStep_of_runt {s : State} {i : IfaceId} {F : Frame} (hrun : s.running = true)
    (hen : (s.ifAt i).en = true) (hrunt : F.length < 14) : frameStep F i s = droppedWith 6 s := by
  rw [frameStep, if_neg (not_not.mpr hrun), if_neg (not_not.mpr hen), if_pos hrunt, raiseDrop_eq_droppedWith,
    DropCause.index]

theorem frameStep_of_router {s : State} {i : IfaceId} {F : Frame} (hrun : s.running = true)
    (hen : (s.ifAt i).en = true) (hlen : 14 ≤ F.length) (hmode : s.routerMode = true) :
    frameStep F i s = route F s := by
  rw [frameStep, if_neg (not_not.mpr hrun), if_neg (not_not.mpr hen), if_neg (not_lt.mpr hlen), if_pos hmode]

/-- Settles O49: the refusals are the branches of `exec_frame_eq`, the drops those of `frameStep`. -/
theorem frameRefusalsAndEarlyDrops : Obligations.FrameRefusalsAndEarlyDrops := by
  refine fun s a F => ⟨fun hlong => ?_, fun hfit ha => ?_, fun hfit ha hif => ?_, fun hfit ha hif => ?_⟩
  · rw [exec_frame_eq, if_pos hlong]
    exact cmdErr_eq_refusedWith ..
  · rw [exec_frame_eq, if_neg (not_lt.mpr hfit), if_pos ha]
    exact cmdErr_eq_refusedWith ..
  · rw [exec_frame_eq, if_neg (not_lt.mpr hfit), if_neg (not_le.mpr ha), if_pos hif]
    exact cmdErr_eq_refusedWith ..
  · rw [exec_frame_of_accepted hfit ha hif]
    exact ⟨fun hrun => congrArg _ (frameStep_of_stopped hrun ..),
      fun hrun hen => congrArg _ (frameStep_of_unconfigured hrun hen F),
      fun hrun hen hrunt => congrArg _ (frameStep_of_runt hrun hen hrunt)⟩

end Sys2Proof.Machine

/-! ## The drops of the router pipeline, in order (44_router_forwarder.md R151 to R157, R161) -/

namespace Sys2Proof.Machine

/-! ### The header of a frame (30_encoding.md R73, R74) -/

theorem hlen_eq (F : Frame) : hlen F = 4 * ((byteAt F 14).toNat % 16) := by
  rw [hlen, ihl, BitVec.extractLsb'_toNat, Nat.shiftRight_zero]

theorem ipHeader_eq (F : Frame) : ipHeader F = (F.drop 14).take (4 * ((byteAt F 14).toNat % 16)) := by
  rw [ipHeader, hlen_eq]

theorem malformed_eq_false_iff {F : Frame} : malformed F = false ↔ HeaderPresent F := by
  simp only [malformed, HeaderPresent, ← hlen_eq, Bool.or_eq_false_iff, decide_eq_false_iff_not, not_lt, and_assoc]
  have : hlen F = 4 * (ihl F).toNat := rfl
  have := hlen_eq F
  omega

theorem HeaderPresent.hlen_ge {F : Frame} (h : HeaderPresent F) : 20 ≤ hlen F := by
  obtain ⟨-, hihl, -⟩ := h
  rw [hlen_eq]
  omega

theorem HeaderPresent.hlen_le {F : Frame} (h : HeaderPresent F) : 14 + hlen F ≤ F.length := by
  obtain ⟨-, -, hlen⟩ := h
  rwa [hlen_eq]

theorem length_ipHeader {F : Frame} (h : 14 + hlen F ≤ F.length) : (ipHeader F).length = hlen F := by
  rw [ipHeader, List.length_take, List.length_drop]
  omega

/-- Byte `k` of the header is byte `14 + k` of the frame. -/
theorem byteAt_ipHeader (F : Frame) (k : Nat) :
    byteAt (ipHeader F) k = if k < hlen F then byteAt F (14 + k) else 0 := by
  simp only [byteAt, ipHeader, List.getD_eq_getElem?_getD, List.getElem?_take, List.getElem?_drop]
  split <;> rfl

/-- The stored checksum stands in bytes 24 and 25 of the frame. -/
theorem hdrValid_ipHeader_iff {F : Frame} (h : HeaderPresent F) :
    hdrValid (ipHeader F) = true ↔ read16 F 24 = hdrCksum (ipHeader F) := by
  have := h.hlen_ge
  rw [hdrValid_iff, read16, byteAt_ipHeader, byteAt_ipHeader, if_pos (by omega), if_pos (by omega), ← read16]

theorem ttl_small_iff (F : Frame) : (ttl F = 0 ∨ ttl F = 1) ↔ (byteAt F 22).toNat ≤ 1 := by
  rw [← BitVec.toNat_inj, ← BitVec.toNat_inj, ttl]
  simp only [BitVec.ofNat_eq_ofNat, BitVec.toNat_ofNat]
  omega

/-- A number below `N_IF` cut to four bits is an interface id below `N_IF`, and every such id is met. -/
theorem selfDestined_iff {F : Frame} {s : State} : s.selfDestined (dst F) = true ↔ SelfDestined F s := by
  simp only [State.selfDestined, List.any_eq_true, List.mem_range, Bool.and_eq_true, beq_iff_eq, SelfDestined, dst]
  constructor
  · rintro ⟨j, hj, hen, hip⟩
    exact ⟨_, (Nat.mod_le j _).trans_lt hj, hen, hip⟩
  · rintro ⟨e, he, hen, hip⟩
    exact ⟨e.toNat, he, by simpa using hen, by simpa using hip⟩

/-! ### The ends of the pipeline -/

/-- The frame passed the checks of its header, steps 1 to 3 (R151 to R154). -/
structure HeaderAccepted (F : Frame) : Prop where
  ipv4 : etype F = etypeIPv4
  present : HeaderPresent F
  valid : hdrValid (ipHeader F) = true
  alive : 2 ≤ (byteAt F 22).toNat

theorem HeaderAccepted.not_malformed {F : Frame} (h : HeaderAccepted F) : malformed F = false :=
  malformed_eq_false_iff.mpr h.present

theorem HeaderAccepted.ttl_ne {F : Frame} (h : HeaderAccepted F) : ttl F ≠ 0#8 ∧ ttl F ≠ 1#8 :=
  not_or.mp (mt (ttl_small_iff F).mp (not_le.mpr h.alive))

section
variable {s : State} {F : Frame}

theorem routeDecision_of_etype (h : etype F ≠ etypeIPv4) : s.routeDecision F = .error .type := if_pos h

theorem routeDecision_of_absent (ht : etype F = etypeIPv4) (h : ¬ HeaderPresent F) :
    s.routeDecision F = .error .malformed := by
  rw [← malformed_eq_false_iff, Bool.not_eq_false] at h
  rw [State.routeDecision, if_neg (not_not.mpr ht), if_pos h]

theorem routeDecision_of_invalid (ht : etype F = etypeIPv4) (hp : HeaderPresent F)
    (h : ¬ hdrValid (ipHeader F) = true) : s.routeDecision F = .error .csum := by
  rw [State.routeDecision, if_neg (not_not.mpr ht), malformed_eq_false_iff.mpr hp, if_neg Bool.false_ne_true, if_pos h]

theorem routeDecision_of_expired (ht : etype F = etypeIPv4) (hp : HeaderPresent F)
    (hv : hdrValid (ipHeader F) = true) (h : (byteAt F 22).toNat ≤ 1) : s.routeDecision F = .error .ttl := by
  rw [State.routeDecision, if_neg (not_not.mpr ht), malformed_eq_false_iff.mpr hp, if_neg Bool.false_ne_true,
    if_neg (not_not.mpr hv), if_pos ((ttl_small_iff F).mpr h)]

namespace HeaderAccepted

/-- Past the checks of the header, steps 4 to 6 decide by the tables. -/
theorem routeDecision_of_self (h : HeaderAccepted F) (hself : SelfDestined F s) :
    s.routeDecision F = .error .self := by
  simp [State.routeDecision, h.ipv4, h.not_malformed, h.valid, h.ttl_ne, selfDestined_iff.mpr hself]

theorem routeDecision_of_no_route (h : HeaderAccepted F) (hself : ¬ SelfDestined F s) (hr : s.lpm (dst F) = none) :
    s.routeDecision F = .error .noRoute := by
  rw [← selfDestined_iff] at hself
  simp [State.routeDecision, h.ipv4, h.not_malformed, h.valid, h.ttl_ne, hself, hr]

theorem routeDecision_of_no_neighbor (h : HeaderAccepted F) (hself : ¬ SelfDestined F s) {r : Nat}
    (hr : s.lpm (dst F) = some r) (hq : s.nbLookup (s.nbKey r (dst F)) = none) :
    s.routeDecision F = .error .noNeigh := by
  rw [← selfDestined_iff] at hself
  simp [State.routeDecision, h.ipv4, h.not_malformed, h.valid, h.ttl_ne, hself, hr, hq]

theorem routeDecision_of_resolved (h : HeaderAccepted F) (hself : ¬ SelfDestined F s) {r q : Nat}
    (hr : s.lpm (dst F) = some r) (hq : s.nbLookup (s.nbKey r (dst F)) = some q) :
    s.routeDecision F = .ok ((s.rtAt r).iface,
      mutate F (ttl F - 1) (s.nbAt q).mac (s.ifAt (s.rtAt r).iface).mac) := by
  rw [← selfDestined_iff] at hself
  simp [State.routeDecision, h.ipv4, h.not_malformed, h.valid, h.ttl_ne, hself, hr, hq]

end HeaderAccepted
end

/-! ### `FRAME` in router mode -/

/-- A dispatched frame passed the checks of the descriptor and the three early drops. -/
theorem Dispatched.exec_eq_route {a : Byte} {F : Frame} {s : State} (h : Dispatched a F s)
    (hmode : s.ctrl.getLsbD 1 = true) : exec (.frame a F) s = .next (route F s) := by
  rw [exec_frame_of_accepted h.fits h.idSmall h.idLegal, frameStep_of_router h.run h.configured h.noRunt hmode]

theorem Dispatched.exec_eq_dropped {a : Byte} {F : Frame} {s : State} {c : DropCause} (h : Dispatched a F s)
    (hmode : s.ctrl.getLsbD 1 = true) (hd : s.routeDecision F = .error c) :
    exec (.frame a F) s = .next (droppedWith c.index s) := by
  rw [h.exec_eq_route hmode, route, hd, ← raiseDrop_eq_droppedWith]

theorem Dispatched.exec_eq_routed {a : Byte} {F G : Frame} {s : State} {e : IfaceId} (h : Dispatched a F s)
    (hmode : s.ctrl.getLsbD 1 = true) (hd : s.routeDecision F = .ok (e, G)) :
    exec (.frame a F) s = .next (routed e G s) := by
  rw [h.exec_eq_route hmode, route, hd]

/-- Settles O50: each drop is an end of the pipeline under the conditions before it. -/
theorem routerDropsInOrder : Obligations.RouterDropsInOrder := by
  intro s a F h hmode
  simp only
  rw [← ipHeader_eq]
  refine ⟨fun ht => ?_, fun ht hp => ?_, fun ht hp => ⟨fun hv => ?_, fun hv => ⟨fun httl => ?_, fun httl => ?_⟩⟩⟩
  · exact h.exec_eq_dropped hmode (routeDecision_of_etype ht)
  · exact h.exec_eq_dropped hmode (routeDecision_of_absent ht hp)
  · exact h.exec_eq_dropped hmode (routeDecision_of_invalid ht hp (mt (hdrValid_ipHeader_iff hp).mp hv))
  · exact h.exec_eq_dropped hmode (routeDecision_of_expired ht hp ((hdrValid_ipHeader_iff hp).mpr hv) httl)
  · have hacc : HeaderAccepted F := ⟨ht, hp, (hdrValid_ipHeader_iff hp).mpr hv, httl⟩
    refine ⟨fun hself => ?_, fun hself => ⟨fun hr => ?_, fun r hr hq => ?_⟩⟩
    · exact h.exec_eq_dropped hmode (hacc.routeDecision_of_self hself)
    · exact h.exec_eq_dropped hmode (hacc.routeDecision_of_no_route hself hr)
    · exact h.exec_eq_dropped hmode (hacc.routeDecision_of_no_neighbor hself hr hq)

end Sys2Proof.Machine

/-! ## The routed frame (44_router_forwarder.md R158, R159) -/

namespace Sys2Proof.Machine

/-! ### The verdict (30_encoding.md R70) -/

/-- The verdict word of 30_encoding.md R70: the code in bits 31:24, the mask in bits 15:0. -/
theorem verdictWord_eq_or (code : Byte) (mask : Half) :
    verdictWord code mask = (code.setWidth 32 <<< 24) ||| mask.setWidth 32 := by
  rw [verdictWord, ← BitVec.setWidth_eq (code ++ (0 : Byte) ++ mask),
    BitVec.setWidth_append_append_eq_shiftLeft_setWidth_or]
  simp

theorem setWidth_ifaceBit (e : IfaceId) : (ifaceBit e).setWidth 32 = (1 : Word) <<< e.toNat := by
  have hpow : 2 ^ e.toNat < 2 ^ 16 := Nat.pow_lt_pow_right (by decide) e.isLt
  rw [← BitVec.toNat_inj, ifaceBit, BitVec.toNat_shiftLeft, BitVec.natCast_eq_ofNat, BitVec.toNat_setWidth,
    BitVec.toNat_ofNat, Nat.shiftLeft_eq, Nat.shiftLeft_eq]
  simp only [BitVec.ofNat_eq_ofNat, BitVec.toNat_ofNat]
  omega

/-- Step 8 (R158): one frame in one transmit log, one counter, and the verdict `ROUTED`. -/
theorem routed_eq_answeredWith (e : IfaceId) (G : Frame) (s : State) :
    routed e G s = answeredWith [0x80000000, (0x80000000 : Word) ||| ((1 : Word) <<< e.toNat)]
      { s with txLog := PerIface.set s.txLog e (PerIface.get s.txLog e ++ [G]),
               counters := { s.counters with routed := s.counters.routed + 1 } } := by
  have hcode : (verdictRouted.setWidth 32 <<< 24 : Word) = 0x80000000 := by decide
  rw [routed, respondOk_eq_answeredWith, verdictWord_eq_or, setWidth_ifaceBit, hcode]
  rfl

/-! ### Bytes after a write that fits -/

theorem byteAt_writeBytes_inside {F bs : List Byte} {k : Nat} (hfit : k + bs.length ≤ F.length) {j : Nat}
    (hj : j < bs.length) : byteAt (writeBytes F k bs) (k + j) = byteAt bs j := by
  rw [byteAt_writeBytes hfit, if_pos (by omega), Nat.add_sub_cancel_left]

theorem byteAt_writeBytes_outside {F bs : List Byte} {k : Nat} (hfit : k + bs.length ≤ F.length) {j : Nat}
    (hj : j < k ∨ k + bs.length ≤ j) : byteAt (writeBytes F k bs) j = byteAt F j := by
  rw [byteAt_writeBytes hfit, if_neg (by omega)]

theorem read48_congr {F G : Frame} {k j : Nat} (h : ∀ i < 6, byteAt F (k + i) = byteAt G (j + i)) :
    read48 F k = read48 G j := by
  have h0 : byteAt F k = byteAt G j := h 0 (by decide)
  simp only [read48, h0, h 1 (by decide), h 2 (by decide), h 3 (by decide), h 4 (by decide), h 5 (by decide)]

/-- The six bytes of a link address, the high one first, are the address. -/
theorem read48_bytesOf48 (v : LinkAddr) : read48 (bytesOf48 v) 0 = v := by
  have hbytes : read48 (bytesOf48 v) 0 = v.extractLsb' 40 8 ++ v.extractLsb' 32 8 ++ v.extractLsb' 24 8 ++
      v.extractLsb' 16 8 ++ v.extractLsb' 8 8 ++ v.extractLsb' 0 8 := rfl
  rw [hbytes, BitVec.extractLsb'_append_extractLsb'_eq_extractLsb' (show 40 = 32 + 8 from rfl),
    BitVec.extractLsb'_append_extractLsb'_eq_extractLsb' (show 32 = 24 + 8 from rfl),
    BitVec.extractLsb'_append_extractLsb'_eq_extractLsb' (show 24 = 16 + 8 from rfl),
    BitVec.extractLsb'_append_extractLsb'_eq_extractLsb' (show 16 = 8 + 8 from rfl),
    BitVec.extractLsb'_append_extractLsb'_eq_extractLsb' (show 8 = 0 + 8 from rfl)]
  exact BitVec.extractLsb'_eq_self

theorem read48_writeBytes_bytesOf48 {F : Frame} {k : Nat} (hfit : k + 6 ≤ F.length) (v : LinkAddr) :
    read48 (writeBytes F k (bytesOf48 v)) k = v := by
  refine (read48_congr fun i hi => ?_).trans (read48_bytesOf48 v)
  rw [byteAt_writeBytes_inside hfit hi, Nat.zero_add]

theorem read48_writeBytes_outside {F bs : List Byte} {k : Nat} (hfit : k + bs.length ≤ F.length) {j : Nat}
    (hj : j + 6 ≤ k ∨ k + bs.length ≤ j) : read48 (writeBytes F k bs) j = read48 F j :=
  read48_congr fun _ hi => byteAt_writeBytes_outside hfit (by omega)

/-- A write inside the header of a frame, past its first byte, is a write in the header. -/
theorem ipHeader_writeBytes {F bs : List Byte} {p : Nat} (hp : 0 < p) (hbs : p + bs.length ≤ hlen F)
    (hF : 14 + hlen F ≤ F.length) : ipHeader (writeBytes F (14 + p) bs) = writeBytes (ipHeader F) p bs := by
  have hfit : 14 + p + bs.length ≤ F.length := by omega
  have hin : p + bs.length ≤ (ipHeader F).length := by rwa [length_ipHeader hF]
  have hhlen : hlen (writeBytes F (14 + p) bs) = hlen F := by
    rw [hlen_eq, hlen_eq, byteAt_writeBytes_outside hfit (.inl (by omega))]
  refine frame_ext ?_ fun k => ?_
  · rw [length_writeBytes hin, length_ipHeader hF, length_ipHeader, hhlen]
    rwa [hhlen, length_writeBytes hfit]
  · rw [byteAt_ipHeader, hhlen, byteAt_writeBytes hfit, byteAt_writeBytes hin, byteAt_ipHeader]
    by_cases hk : p ≤ k ∧ k < p + bs.length
    · rw [if_pos hk, if_pos (by omega), if_pos (by omega), Nat.add_sub_add_left]
    · rw [if_neg hk, if_neg (c := 14 + p ≤ 14 + k ∧ _) (by omega)]

/-! ### The frame header mutator (R159) -/

/-- `G` is `F` with both link addresses and the TTL replaced and every other byte as it was, but for the stored
checksum in bytes 24 and 25. -/
structure Rewritten (F G : Frame) (newTtl : Byte) (dstMac srcMac : LinkAddr) : Prop where
  length : G.length = F.length
  dmac : read48 G 0 = dstMac
  smac : read48 G 6 = srcMac
  ttl : byteAt G 22 = newTtl
  rest : ∀ k, 12 ≤ k → k ≠ 22 → k ≠ 24 → k ≠ 25 → byteAt G k = byteAt F k

theorem rewriteAddresses_rewritten {F : Frame} (h : 23 ≤ F.length) (newTtl : Byte) (dstMac srcMac : LinkAddr) :
    Rewritten F (rewriteAddresses F newTtl dstMac srcMac) newTtl dstMac srcMac := by
  rw [rewriteAddresses]
  have hfit₁ : 0 + (bytesOf48 dstMac).length ≤ F.length := show 0 + 6 ≤ _ by omega
  have hlen₁ := length_writeBytes hfit₁
  have hdst := read48_writeBytes_bytesOf48 hfit₁ dstMac
  have hrest₁ {k : Nat} (hk : 12 ≤ k) := byteAt_writeBytes_outside hfit₁ (.inr (show 0 + 6 ≤ k by omega))
  generalize writeBytes F 0 (bytesOf48 dstMac) = F₁ at *
  have hfit₂ : 6 + (bytesOf48 srcMac).length ≤ F₁.length := show 6 + 6 ≤ _ by omega
  have hlen₂ := length_writeBytes hfit₂
  have hsrc := read48_writeBytes_bytesOf48 hfit₂ srcMac
  have hdst₂ := read48_writeBytes_outside hfit₂ (j := 0) (.inl (by decide))
  have hrest₂ {k : Nat} (hk : 12 ≤ k) := byteAt_writeBytes_outside hfit₂ (.inr (show 6 + 6 ≤ k by omega))
  generalize writeBytes F₁ 6 (bytesOf48 srcMac) = F₂ at *
  have hfit₃ : 22 + [newTtl].length ≤ F₂.length := show 22 + 1 ≤ _ by omega
  exact {
    length := by rw [length_writeBytes hfit₃, hlen₂, hlen₁]
    dmac := by rw [read48_writeBytes_outside hfit₃ (.inl (by decide)), hdst₂, hdst]
    smac := by rw [read48_writeBytes_outside hfit₃ (.inl (by decide)), hsrc]
    ttl := byteAt_writeBytes_inside hfit₃ (j := 0) Nat.one_pos
    rest := fun k hk h22 _ _ => by
      have hout : k < 22 ∨ 22 + [newTtl].length ≤ k := show k < 22 ∨ 22 + 1 ≤ k by omega
      rw [byteAt_writeBytes_outside hfit₃ hout, hrest₂ hk, hrest₁ hk] }

namespace Rewritten
variable {F G : Frame} {newTtl : Byte} {dstMac srcMac : LinkAddr}

theorem hlen_eq (h : Rewritten F G newTtl dstMac srcMac) : hlen G = hlen F := by
  rw [Machine.hlen_eq, Machine.hlen_eq, h.rest 14 (by decide) (by decide) (by decide) (by decide)]

/-- The stored checksum may take any value. -/
theorem writeChecksum (h : Rewritten F G newTtl dstMac srcMac) (hF : 26 ≤ F.length) (v : Half) :
    Rewritten F (writeBytes G 24 (bytesOf16 v)) newTtl dstMac srcMac := by
  have hfit : 24 + (bytesOf16 v).length ≤ G.length := by rw [h.length]; exact hF
  exact {
    length := by rw [length_writeBytes hfit, h.length]
    dmac := by rw [read48_writeBytes_outside hfit (.inl (by decide)), h.dmac]
    smac := by rw [read48_writeBytes_outside hfit (.inl (by decide)), h.smac]
    ttl := by rw [byteAt_writeBytes_outside hfit (.inl (by decide)), h.ttl]
    rest := fun k hk h22 h24 h25 => by
      have hout : k < 24 ∨ 24 + (bytesOf16 v).length ≤ k := show k < 24 ∨ 24 + 2 ≤ k by omega
      rw [byteAt_writeBytes_outside hfit hout, h.rest k hk h22 h24 h25] }

end Rewritten

theorem mutate_rewritten {F : Frame} (h : HeaderPresent F) (newTtl : Byte) (dstMac srcMac : LinkAddr) :
    Rewritten F (mutate F newTtl dstMac srcMac) newTtl dstMac srcMac := by
  obtain ⟨hlen, -, -⟩ := h
  exact (rewriteAddresses_rewritten (by omega) ..).writeChecksum (by omega) _

/-- The mutator re-stamps the header, so it leaves a valid one (43_checksum.md R139). -/
theorem hdrValid_mutate {F : Frame} (h : HeaderPresent F) (newTtl : Byte) (dstMac srcMac : LinkAddr) :
    hdrValid (ipHeader (mutate F newTtl dstMac srcMac)) = true := by
  have hlow := h.hlen_ge
  have hhigh := h.hlen_le
  have hrew := rewriteAddresses_rewritten (F := F) (by omega) newTtl dstMac srcMac
  rw [← hrew.length, ← hrew.hlen_eq] at hhigh
  rw [← hrew.hlen_eq] at hlow
  have hstamp : ipHeader (mutate F newTtl dstMac srcMac) = restamp (ipHeader (rewriteAddresses F newTtl dstMac srcMac)) :=
    ipHeader_writeBytes (p := 10) (by decide) (show 10 + 2 ≤ _ by omega) hhigh
  obtain ⟨hvalid, -⟩ := restampedHeaderIsValid (ipHeader (rewriteAddresses F newTtl dstMac srcMac))
    (by rw [length_ipHeader hhigh]; omega)
  rw [hstamp, hvalid]

/-- Settles O51: the frame transmitted is the one the mutator answers. -/
theorem routedFrameIsRewritten : Obligations.RoutedFrameIsRewritten := by
  intro s a F r q h hmode ht hp hv httl hself hr hq
  rw [← ipHeader_eq, ← hdrValid_ipHeader_iff hp] at hv
  have hacc : HeaderAccepted F := ⟨ht, hp, hv, httl⟩
  have hrew := mutate_rewritten hp (ttl F - 1) (s.nbAt q).mac (s.ifAt (s.rtAt r).iface).mac
  have hdec : (ttl F - 1).toNat = (byteAt F 22).toNat - 1 := BitVec.toNat_sub_of_le (show 1 ≤ (byteAt F 22).toNat by omega)
  refine ⟨_, ?_, hrew.length, hrew.dmac, hrew.smac, by rw [hrew.ttl, hdec], hrew.rest, ?_⟩
  · rw [h.exec_eq_routed hmode (hacc.routeDecision_of_resolved hself hr hq), routed_eq_answeredWith]
  · rw [← ipHeader_eq, hdrValid_mutate hp]

end Sys2Proof.Machine

/-! ## The bytes after the header have no part in the verdict (44_router_forwarder.md R152, R161) -/

namespace Sys2Proof.Machine

/-- Two frames of one length that agree up to the end of the header, and up to the fields of a least header. -/
structure SameHeader (F G : Frame) : Prop where
  length : F.length = G.length
  bytes : ∀ k, k < max 34 (14 + hlen F) → byteAt F k = byteAt G k

namespace SameHeader
variable {F G : Frame}

theorem byte (h : SameHeader F G) {k : Nat} (hk : k < 34) : byteAt F k = byteAt G k :=
  h.bytes k (lt_max_of_lt_left hk)

theorem etype_eq (h : SameHeader F G) : etype F = etype G := by
  rw [etype, read16, h.byte (by decide), h.byte (by decide), etype, read16]

theorem ttl_eq (h : SameHeader F G) : ttl F = ttl G := h.byte (by decide)

theorem dst_eq (h : SameHeader F G) : dst F = dst G := by
  rw [dst, read32, h.byte (by decide), h.byte (by decide), h.byte (by decide), h.byte (by decide), dst, read32]

theorem ihl_eq (h : SameHeader F G) : ihl F = ihl G := by
  rw [ihl, h.byte (by decide), ihl]

theorem hlen_eq (h : SameHeader F G) : hlen F = hlen G := by
  rw [hlen, h.ihl_eq, hlen]

theorem malformed_eq (h : SameHeader F G) : malformed F = malformed G := by
  rw [malformed, h.length, h.ihl_eq, h.hlen_eq, malformed]

theorem ipHeader_eq (h : SameHeader F G) : ipHeader F = ipHeader G := by
  refine frame_ext ?_ fun k => ?_
  · simp only [ipHeader, List.length_take, List.length_drop, h.length, h.hlen_eq]
  · rw [byteAt_ipHeader, byteAt_ipHeader, ← h.hlen_eq]
    split
    · exact h.bytes _ (lt_max_of_lt_right (by omega))
    · rfl

/-- The pipeline drops both frames for one cause or sends both out on one interface. -/
theorem routeDecision_iface_eq (h : SameHeader F G) (s : State) :
    (s.routeDecision F).map Prod.fst = (s.routeDecision G).map Prod.fst := by
  rw [State.routeDecision, h.etype_eq, h.malformed_eq, h.ipHeader_eq, h.ttl_eq, h.dst_eq, State.routeDecision]
  rcases s.lpm (dst G) with _ | r
  · rfl
  rcases hq : s.nbLookup (s.nbKey r (dst G)) with _ | q
  · simp only [hq]
  · simp only [hq]
    split_ifs <;> rfl

theorem route_eq (h : SameHeader F G) (s : State) : route G s = { route F s with txLog := (route G s).txLog } := by
  have hd := h.routeDecision_iface_eq s
  obtain ⟨c, hF, hrF⟩ | ⟨e, F', hF, hrF⟩ := route_cases F s
  · obtain ⟨c', hG, hrG⟩ | ⟨e', G', hG, hrG⟩ := route_cases G s
    · rw [hF, hG] at hd
      obtain rfl := Except.error.inj hd
      rw [hrF, hrG]
    · rw [hF, hG] at hd
      cases hd
  · obtain ⟨c', hG, hrG⟩ | ⟨e', G', hG, hrG⟩ := route_cases G s
    · rw [hF, hG] at hd
      cases hd
    · rw [hF, hG] at hd
      obtain rfl : e = e' := Except.ok.inj hd
      rw [hrF, hrG]
      rfl

end SameHeader

/-- The checks of the descriptor see the length of a frame only. -/
theorem exec_frame_eq_or_frameStep {F G : Frame} (hlen : F.length = G.length) (a : Byte) (s : State) :
    exec (.frame a F) s = exec (.frame a G) s ∨
    (exec (.frame a F) s = .next (frameStep F (a.setWidth 4) s) ∧
      exec (.frame a G) s = .next (frameStep G (a.setWidth 4) s)) := by
  rw [exec_frame_eq, exec_frame_eq, hlen]
  split_ifs
  · exact .inl rfl
  · exact .inl rfl
  · exact .inl rfl
  · exact .inr ⟨rfl, rfl⟩

/-- So do the drops before the dispatch. -/
theorem frameStep_eq_or_route {F G : Frame} (hlen : F.length = G.length) {s : State} (hmode : s.routerMode = true)
    (i : IfaceId) :
    frameStep F i s = frameStep G i s ∨ (frameStep F i s = route F s ∧ frameStep G i s = route G s) := by
  cases hrun : s.running
  · exact .inl (by rw [frameStep_of_stopped hrun, frameStep_of_stopped hrun])
  cases hen : (s.ifAt i).en
  · exact .inl (by rw [frameStep_of_unconfigured hrun hen, frameStep_of_unconfigured hrun hen])
  obtain hrunt | hlong := Nat.lt_or_ge F.length 14
  · exact .inl (by rw [frameStep_of_runt hrun hen hrunt, frameStep_of_runt hrun hen (hlen ▸ hrunt)])
  · exact .inr ⟨frameStep_of_router hrun hen hlong hmode, frameStep_of_router hrun hen (hlen ▸ hlong) hmode⟩

/-- Settles O52: the checks see the length only, and the pipeline reads no byte after the header. -/
theorem routerVerdictIgnoresPayload : Obligations.RouterVerdictIgnoresPayload := by
  intro s t u a F G hmode hlen hbytes ht hu
  have h : SameHeader F G := ⟨hlen, by rwa [hlen_eq]⟩
  obtain he | ⟨hF, hG⟩ := exec_frame_eq_or_frameStep hlen a s
  · obtain rfl := Host.Outcome.next.inj (ht.symm.trans (he.trans hu))
    rfl
  obtain rfl := Host.Outcome.next.inj (hF.symm.trans ht)
  obtain rfl := Host.Outcome.next.inj (hG.symm.trans hu)
  obtain he | ⟨hrF, hrG⟩ := frameStep_eq_or_route hlen hmode (a.setWidth 4)
  · rw [he]
  · rw [hrF, hrG]
    exact h.route_eq s

end Sys2Proof.Machine

/-! ## No entry of `MT` was last seen in the future (45_learning_switch.md R191; 70_reset_and_hazards.md R230) -/

namespace Sys2Proof.Machine

/-! ### `TIME` as a number, while it does not wrap -/

theorem toNat_time_add_one {s : State} (hwrap : s.time.toNat + 1 < 2 ^ 64) :
    (s.time + 1).toNat = s.time.toNat + 1 :=
  BitVec.toNat_add_of_lt (by simpa using hwrap)

theorem toNat_tick_time {s : State} (hwrap : s.time.toNat + 1 < 2 ^ 64) :
    (tick s).time.toNat = s.time.toNat + 1 := by
  rw [tick_time, toNat_time_add_one hwrap]

/-! ### The relation between the table and `TIME` -/

/-- No valid slot of `MT` carries a time after `TIME`. -/
def State.SeenByNow (s : State) : Prop :=
  ∀ j, (s.mtAt j).v = true → (s.mtAt j).lastSeen.toNat ≤ s.time.toNat

namespace State.SeenByNow

/-- Keeping or emptying each slot while `TIME` does not go back. -/
theorem of_slots {s t : State} (h : s.SeenByNow) (htime : s.time.toNat ≤ t.time.toNat)
    (hslots : ∀ j, t.mtAt j = s.mtAt j ∨ t.mtAt j = MtSlot.empty) : t.SeenByNow := by
  intro j hv
  obtain hj | hj := hslots j
  · rw [hj] at hv ⊢
    exact (h j hv).trans htime
  · simp [hj, MtSlot.empty] at hv

theorem congr {s t : State} (h : s.SeenByNow) (hmt : t.mt = s.mt) (htime : t.time = s.time) : t.SeenByNow :=
  h.of_slots (congrArg BitVec.toNat htime).ge fun j => .inl (State.mtAt_congr hmt j)

/-- An empty table, whatever `TIME` is: the case of the resets, which put `TIME` back to 0. -/
theorem of_empty {s : State} (h : ∀ j, s.mtAt j = MtSlot.empty) : s.SeenByNow := fun j hv => by
  simp [h j, MtSlot.empty] at hv

/-! ### Learning and the tick -/

/-- A slot written with a time that is not after `TIME`. -/
theorem writeMt {s : State} (h : s.SeenByNow) (j : Nat) {x : MtSlot} (hx : x.lastSeen.toNat ≤ s.time.toNat) :
    (writeMt j x s).SeenByNow := by
  intro k hv
  rw [mtAt_writeMt] at hv ⊢
  by_cases hk : j = k ∧ j < s.mt.length
  · rw [if_pos hk]; exact hx
  · rw [if_neg hk] at hv ⊢; exact h k hv

/-- A learn stamps its slot with `TIME` (45_learning_switch.md R179). -/
theorem mtLearn {s : State} (h : s.SeenByNow) (m : LinkAddr) (i : IfaceId) : (mtLearn m i s).SeenByNow := by
  obtain ⟨j, -, he⟩ | ⟨j, -, -, he⟩ | ⟨-, -, he⟩ := mtLearn_cases m i s
  · rw [he]; exact h.writeMt j le_rfl
  · rw [he]; exact h.writeMt j le_rfl
  · rw [he]; exact h.congr rfl rfl

theorem tick {s : State} (h : s.SeenByNow) (hwrap : s.time.toNat + 1 < 2 ^ 64) : (tick s).SeenByNow := by
  have htime : s.time.toNat ≤ (Machine.tick s).time.toNat := by
    rw [toNat_tick_time hwrap]
    exact Nat.le_succ _
  exact h.of_slots htime (mtAt_tick_cases s)

/-! ### The meanings and the agents' steps -/

/-- The start of a running period and `SOFT_RESET` empty the table; the other writes leave it and `TIME` alone. -/
theorem written {s u : State} {i : Instr} (h : s.SeenByNow) (hw : Written s i u) : u.SeenByNow := by
  cases hw with
  | start => exact of_empty fun j => mtAt_clearMt j s
  | reset => exact of_empty (mtAt_resetWith s.params)
  | same | ctrl | status | ageLimit | sweepPeriod | iface | route | routes | neighbor | neighbors =>
    exact h.congr rfl rfl

theorem frameStep {s : State} (h : s.SeenByNow) (F : Frame) (i : IfaceId) : (frameStep F i s).SeenByNow := by
  obtain ⟨c, he⟩ | ⟨e, F', -, -, -, he⟩ | ⟨-, -, -, -, he⟩ := frameStep_cases F i s
  · rw [he]; exact h.congr rfl rfl
  · rw [he]; exact h.congr rfl rfl
  · rw [he]; exact (h.mtLearn (smac F) i).congr rfl rfl

theorem exec {s t : State} {i : Instr} (h : s.SeenByNow) (he : exec i s = .next t) : t.SeenByNow := by
  obtain ⟨st, -, hr⟩ | ⟨ws, u, hw, hr⟩ | ⟨a, F, -, -, -, -, hr⟩ := exec_cases i s <;>
    obtain rfl := Host.Outcome.next.inj (he.symm.trans hr)
  · exact h.congr rfl rfl
  · exact (h.written hw).congr rfl rfl
  · exact h.frameStep F _

theorem issue {s t : State} {A : Issuer} {d : Descriptor} (h : s.SeenByNow) (he : issue A d s = .next t) :
    t.SeenByNow := by
  obtain ⟨i, -, hi⟩ | ⟨e, -, hi⟩ := issue_cases A d s
  · have h' : { s with agent := A }.SeenByNow := h.congr rfl rfl
    exact h'.exec (hi.symm.trans he)
  · obtain rfl := Host.Outcome.next.inj (he.symm.trans hi)
    exact h.congr rfl rfl

theorem step {s t : State} (h : s.SeenByNow) (hwrap : s.time.toNat + 1 < 2 ^ 64) (he : step s = .next t) :
    t.SeenByNow := by
  obtain ⟨-, hst⟩ | ⟨rest, -, hst⟩ | ⟨rest, -, hst⟩ | ⟨A, rest, p, -, -, hst⟩ | ⟨A, rest, -, -, -, hst⟩ |
    ⟨A, rest, d, ds, -, -, -, -, hst⟩ | ⟨A, rest, d, ds, -, -, -, -, hst⟩ := step_cases s <;>
    replace he := hst.symm.trans he
  · obtain rfl := Host.Outcome.next.inj he
    exact h
  · obtain rfl := Host.Outcome.next.inj he
    have h' : { s with schedule := rest }.SeenByNow := h.congr rfl rfl
    exact h'.tick hwrap
  · obtain rfl := Host.Outcome.next.inj he
    exact of_empty (mtAt_resetWith s.params)
  · obtain rfl := Host.Outcome.next.inj he
    exact h.congr (forwardStep_mt ..) (forwardStep_time ..)
  · obtain rfl := Host.Outcome.next.inj he
    exact h.congr rfl rfl
  · have h' : { s with schedule := rest, queue := s.queue.set A ds }.SeenByNow := h.congr rfl rfl
    exact h'.issue he
  · cases he

end State.SeenByNow

/-- Settles O14: a learn stamps with `TIME`, which only a reset puts back, and a reset empties the table. -/
theorem lastSeenNeverInTheFuture : Obligations.LastSeenNeverInTheFuture := fun _ _ h hwrap he =>
  State.SeenByNow.step h hwrap he

end Sys2Proof.Machine

/-! ## The searches of the MAC table (45_learning_switch.md R178, R179, R194) -/

namespace Sys2Proof.Machine

/-- Slot `k` of `MT` is valid and holds the address `m`. -/
def State.Knows (s : State) (k : Nat) (m : LinkAddr) : Prop := (s.mtAt k).v = true ∧ (s.mtAt k).mac = m

/-! ### `mt_find` and the free slot -/

theorem mtFind_eq_none_iff {s : State} {m : LinkAddr} :
    s.mtFind m = none ↔ ∀ k < s.params.mtDepth, ¬ s.Knows k m := by
  simp only [State.mtFind, State.Knows, List.find?_range_eq_none, Bool.not_eq_true', ← Bool.not_eq_true,
    Bool.and_eq_true, beq_iff_eq]

theorem mtFind_eq_some_iff {s : State} {m : LinkAddr} {j : Nat} :
    s.mtFind m = some j ↔ (j < s.params.mtDepth ∧ s.Knows j m) ∧ ∀ k < j, ¬ s.Knows k m := by
  simp only [State.mtFind, State.Knows, List.find?_range_eq_some, List.mem_range, Bool.not_eq_true',
    ← Bool.not_eq_true, Bool.and_eq_true, beq_iff_eq]
  rw [← and_assoc, and_comm (a := _ ∧ _) (b := j < _)]

theorem mtFree_eq_none_iff {s : State} : s.mtFree = none ↔ ∀ k < s.params.mtDepth, (s.mtAt k).v = true := by
  simp only [State.mtFree, List.find?_range_eq_none, Bool.not_not]

theorem mtFree_eq_some_iff {s : State} {j : Nat} :
    s.mtFree = some j ↔ (j < s.params.mtDepth ∧ (s.mtAt j).v = false) ∧ ∀ k < j, (s.mtAt k).v = true := by
  simp only [State.mtFree, List.find?_range_eq_some, List.mem_range, Bool.not_not, Bool.not_eq_true']
  rw [← and_assoc, and_comm (a := _ = false)]

/-- Settles O53: both searches go through the slot numbers in ascending order. -/
theorem macTableSearches : Obligations.MacTableSearches :=
  fun _ _ => ⟨mtFind_eq_none_iff, fun _ => mtFind_eq_some_iff, mtFree_eq_none_iff, fun _ => mtFree_eq_some_iff⟩

/-! ### `MT_LKUP` (R194) -/

/-- Settles O57: the meaning answers with the words of the slot that `mt_find` finds. -/
theorem mtLkupReportsMtFind : Obligations.MtLkupReportsMtFind := by
  intro s hi lo
  rw [← macOfWords_eq_setWidth]
  refine ⟨fun hbig => ?_, fun hsmall => ?_⟩
  · have hres : macHiReserved hi ≠ 0 := mt (macHiReserved_eq_zero_iff hi).mp (not_lt.mpr hbig)
    have herr : exec (.mtLkup 0 0 hi lo) s = cmdErr .mtLkup .field s := if_pos hres
    exact herr.trans (cmdErr_eq_refusedWith ..)
  have hres : macHiReserved hi = 0 := (macHiReserved_eq_zero_iff hi).mpr hsmall
  refine ⟨fun hmiss => ?_, fun j hhit => ?_⟩
  · have hdone : exec (.mtLkup 0 0 hi lo) s = done .mtLkup [0, 0, 0] s := by simp [exec, execMtLkup, hres, hmiss]
    exact hdone.trans (done_eq_answeredWith rfl ..)
  · have hdone : exec (.mtLkup 0 0 hi lo) s = done .mtLkup
        [hitWord j (s.mtAt j).iface, stampHi (s.mtAt j).lastSeen, stampLo (s.mtAt j).lastSeen] s := by
      simp [exec, execMtLkup, hres, hhit]
    rw [hdone, hitWord_eq_or, stampHi_eq_setWidth, stampLo_eq_setWidth]
    exact done_eq_answeredWith rfl ..

end Sys2Proof.Machine

/-! ## The learn step of a switch-mode `FRAME` (45_learning_switch.md R176, R179, R180) -/

namespace Sys2Proof.Machine

/-! ### The three ends of a learn -/

section
variable {s : State} {m : LinkAddr} {j : Nat} (i : IfaceId)

theorem mtLearn_of_found (h : s.mtFind m = some j) :
    mtLearn m i s = writeMt j { s.mtAt j with iface := i, lastSeen := s.time } s := by
  simp only [mtLearn, h]

theorem mtLearn_of_free (h : s.mtFind m = none) (hfree : s.mtFree = some j) :
    mtLearn m i s = writeMt j { v := true, mac := m, iface := i, lastSeen := s.time } s := by
  simp only [mtLearn, h, hfree]

theorem mtLearn_of_full (h : s.mtFind m = none) (hfree : s.mtFree = none) :
    mtLearn m i s = countLearnOvf (setStatus statusMtOvf s) := by
  simp only [mtLearn, h, hfree]

end

theorem frameStep_of_switch {s : State} {i : IfaceId} {F : Frame} (hrun : s.running = true)
    (hen : (s.ifAt i).en = true) (hlen : 14 ≤ F.length) (hmode : s.routerMode = false) :
    frameStep F i s = learnStep F i s := by
  rw [frameStep, if_neg (not_not.mpr hrun), if_neg (not_not.mpr hen), if_neg (not_lt.mpr hlen),
    if_neg (Bool.eq_false_iff.mp hmode)]

/-- A dispatched frame in switch mode goes through the learn step, whatever it holds. -/
theorem Dispatched.exec_eq_learnStep {a : Byte} {F : Frame} {s : State} (h : Dispatched a F s)
    (hmode : s.ctrl.getLsbD 1 = false) : exec (.frame a F) s = .next (learnStep F (a.setWidth 4) s) := by
  rw [exec_frame_of_accepted h.fits h.idSmall h.idLegal, frameStep_of_switch h.run h.configured h.noRunt hmode]

/-- Settles O54: the three ends of a learn, and then the latch is filled. -/
theorem learnStepOfFrame : Obligations.LearnStepOfFrame := by
  intro s a F h hmode
  rw [h.exec_eq_learnStep hmode, learnStep]
  refine ⟨fun j hj => ?_, fun hmiss => ⟨fun j hfree => ?_, fun hfull => ?_⟩⟩
  · rw [mtLearn_of_found (m := smac F) _ hj]; rfl
  · rw [mtLearn_of_free (m := smac F) _ hmiss hfree]; rfl
  · rw [mtLearn_of_full (m := smac F) _ hmiss hfull]; rfl

end Sys2Proof.Machine

/-! ## What the table knows after a learn (45_learning_switch.md R179, R180; 20_memory.md R50) -/

namespace Sys2Proof.Machine

/-! ### The slot a learn writes -/

/-- Slot `j` is the one a learn of `m` writes: no lower slot holds `m`, and it holds no other address. -/
structure State.LearnsAt (s : State) (m : LinkAddr) (j : Nat) : Prop where
  inTable : j < s.params.mtDepth
  lowest : ∀ k < j, ¬ s.Knows k m
  noOther : ∀ m', m' ≠ m → ¬ s.Knows j m'

/-- A learn that does not overflow writes one slot, and the same whether it refreshes or allocates. -/
theorem mtLearn_writes_or_overflows (m : LinkAddr) (i : IfaceId) (s : State) :
    (∃ j x, s.LearnsAt m j ∧ x = { v := true, mac := m, iface := i, lastSeen := s.time } ∧
      mtLearn m i s = writeMt j x s) ∨
    (s.mtFind m = none ∧ mtLearn m i s = countLearnOvf (setStatus statusMtOvf s)) := by
  obtain ⟨j, hfind, he⟩ | ⟨j, hfind, hfree, he⟩ | ⟨hfind, -, he⟩ := mtLearn_cases m i s
  · obtain ⟨⟨hj, hv, hm⟩, hlow⟩ := mtFind_eq_some_iff.mp hfind
    exact .inl ⟨j, _, ⟨hj, hlow, fun m' hne ⟨_, hm'⟩ => hne (hm'.symm.trans hm)⟩, by simp only [hv, hm], he⟩
  · obtain ⟨⟨hj, hv⟩, -⟩ := mtFree_eq_some_iff.mp hfree
    have hmiss := mtFind_eq_none_iff.mp hfind
    have hfreed : ∀ m', ¬ s.Knows j m' := fun m' ⟨hv', _⟩ => by simp [hv] at hv'
    exact .inl ⟨j, _, ⟨hj, fun k hk => hmiss k (hk.trans hj), fun m' _ => hfreed m'⟩, rfl, he⟩
  · exact .inr ⟨hfind, he⟩

/-! ### Searches after the write -/

theorem mtFind_congr {s t : State} {m : LinkAddr} (hp : t.params = s.params)
    (h : ∀ k, t.Knows k m ↔ s.Knows k m) : t.mtFind m = s.mtFind m := by
  refine Option.ext fun j => ?_
  simp only [mtFind_eq_some_iff, hp, h]

section
variable {s : State} {m : LinkAddr} {j : Nat} {x : MtSlot}

theorem mtAt_writeMt_self (hj : j < s.mt.length) : (writeMt j x s).mtAt j = x := by
  rw [mtAt_writeMt, if_pos ⟨rfl, hj⟩]

theorem mtAt_writeMt_ne {k : Nat} (hk : j ≠ k) : (writeMt j x s).mtAt k = s.mtAt k := by
  rw [mtAt_writeMt, if_neg fun h => hk h.1]

namespace State.LearnsAt

/-- The address is found in the slot written. -/
theorem mtFind_learned (h : s.LearnsAt m j) (hlen : s.mt.length = s.params.mtDepth) (hv : x.v = true)
    (hm : x.mac = m) : (writeMt j x s).mtFind m = some j := by
  refine mtFind_eq_some_iff.mpr ⟨⟨h.inTable, ?_⟩, fun k hk => ?_⟩
  · rw [State.Knows, mtAt_writeMt_self (hlen ▸ h.inTable)]
    exact ⟨hv, hm⟩
  · rw [State.Knows, mtAt_writeMt_ne (Nat.ne_of_gt hk)]
    exact h.lowest k hk

/-- Another address is found where it was: it stood in no slot `j` before, and it stands in none after. -/
theorem mtFind_other (h : s.LearnsAt m j) (hlen : s.mt.length = s.params.mtDepth) (hm : x.mac = m)
    {m' : LinkAddr} (hne : m' ≠ m) : (writeMt j x s).mtFind m' = s.mtFind m' := by
  refine mtFind_congr rfl fun k => ?_
  obtain rfl | hk := eq_or_ne j k
  · refine iff_of_false (fun hk => ?_) (h.noOther m' hne)
    rw [State.Knows, mtAt_writeMt_self (hlen ▸ h.inTable), hm] at hk
    exact hne hk.2.symm
  · rw [State.Knows, State.Knows, mtAt_writeMt_ne hk]

/-- The slot in which another address is found is not the one written. -/
theorem mtAt_other (h : s.LearnsAt m j) {m' : LinkAddr} (hne : m' ≠ m) {k : Nat} (hk : s.mtFind m' = some k) :
    (writeMt j x s).mtAt k = s.mtAt k := by
  refine mtAt_writeMt_ne ?_
  rintro rfl
  exact h.noOther m' hne (mtFind_some hk).2

end State.LearnsAt
end

/-- Settles O55: an overflow is told by its counter; every other learn writes one slot of the source address. -/
theorem learnedAddressIsFound : Obligations.LearnedAddressIsFound := by
  intro s t a F hinv h hmode he
  obtain rfl := Host.Outcome.next.inj ((h.exec_eq_learnStep hmode).symm.trans he)
  rw [learnStep]
  obtain ⟨j, x, hat, hx, hl⟩ | ⟨hmiss, hl⟩ := mtLearn_writes_or_overflows (smac F) (a.setWidth 4) s
  · rw [hl]
    have hlen := hinv.mtLength
    have hm : x.mac = smac F := congrArg MtSlot.mac hx
    refine ⟨fun _ => ⟨j, hat.mtFind_learned hlen (congrArg MtSlot.v hx) hm, ?_⟩, fun hc => absurd rfl hc,
      fun m hne => ?_⟩
    · have hj := (mtAt_writeMt_self (hlen ▸ hat.inTable)).trans hx
      exact ⟨congrArg MtSlot.iface hj, congrArg MtSlot.lastSeen hj⟩
    · have hfind := hat.mtFind_other hlen hm hne
      exact ⟨hfind, fun k hk => hat.mtAt_other hne (hfind.symm.trans hk)⟩
  · rw [hl]
    refine ⟨fun hc => ?_, fun _ => ⟨rfl, hmiss⟩, fun m _ => ⟨rfl, fun _ _ => rfl⟩⟩
    have hovf : s.counters.learnOvf + 1 = s.counters.learnOvf := congrArg Counters.learnOvf hc
    simp at hovf

end Sys2Proof.Machine

/-! ## The forward step of a switch-mode `FRAME` (45_learning_switch.md R177, R181, R182, R184) -/

namespace Sys2Proof.Machine

/-! ### The turn of an agent with a full latch (log entry 4) -/

theorem step_of_pending {s : State} {A : Issuer} {rest : List Turn} {p : Pending} (hs : s.schedule = .agent A :: rest)
    (hp : s.pend.get A = some p) : step s = .next (forwardStep p { s with schedule := rest, agent := A }) := by
  simp only [step, nextStep, hs, runTurn, agentTurn, hp]

section
variable {s : State} {p : Pending}

theorem forwardStep_of_off (h : s.running = false ∨ s.routerMode = true) :
    forwardStep p s = droppedWith 8 (setPend s.agent none s) := by
  have hoff : ¬ s.running = true ∨ s.routerMode = true := h.imp_left Bool.eq_false_iff.mp
  exact (if_pos hoff).trans (raiseDrop_eq_droppedWith .notRun _)

theorem forwardStep_of_hit (hrun : s.running = true) (hmode : s.routerMode = false) {j : Nat}
    (hj : s.mtFind (dmac p.bytes) = some j) :
    forwardStep p s = forwardHit p.bytes (s.mtAt j).iface (setPend s.agent none s) := by
  have hj' : (setPend s.agent none s).mtFind (dmac p.bytes) = some j := hj
  have hon : ¬ (¬ s.running = true ∨ s.routerMode = true) := by simp [hrun, hmode]
  refine (if_neg hon).trans ?_
  simp only [hj']
  rfl

theorem forwardStep_of_miss (hrun : s.running = true) (hmode : s.routerMode = false)
    (hmiss : s.mtFind (dmac p.bytes) = none) :
    forwardStep p s = flood p.bytes p.iface (setPend s.agent none s) := by
  have hmiss' : (setPend s.agent none s).mtFind (dmac p.bytes) = none := hmiss
  have hon : ¬ (¬ s.running = true ∨ s.routerMode = true) := by simp [hrun, hmode]
  refine (if_neg hon).trans ?_
  simp only [hmiss']

end

/-! ### The verdicts -/

/-- A hit (R181): the frame as it is in one transmit log, one counter, and the verdict `SWITCHED`. -/
theorem forwardHit_eq_answeredWith (F : Frame) (e : IfaceId) (s : State) :
    forwardHit F e s = answeredWith [0x80000000, (0x81000000 : Word) ||| ((1 : Word) <<< e.toNat)]
      { s with txLog := PerIface.set s.txLog e (PerIface.get s.txLog e ++ [F]),
               counters := { s.counters with switched := s.counters.switched + 1 } } := by
  have hcode : (verdictSwitched.setWidth 32 <<< 24 : Word) = 0x81000000 := by decide
  rw [forwardHit, respondOk_eq_answeredWith, verdictWord_eq_or, setWidth_ifaceBit, hcode]
  rfl

/-- A miss (R182): the transmissions, one counter for all of them, and the verdict `FLOODED`. -/
theorem flood_eq_answeredWith (F : Frame) (i : IfaceId) (s : State) :
    flood F i s = answeredWith [0x80000000, (0x82000000 : Word) ||| (ifaceMask (s.floodSet i)).setWidth 32]
      { s with txLog := (emitAll (s.floodSet i) F s).txLog,
               counters := { s.counters with flooded := s.counters.flooded + 1 } } := by
  have hcode : (verdictFlooded.setWidth 32 <<< 24 : Word) = 0x82000000 := by decide
  rw [flood, emitAll_frame, respondOk_eq_answeredWith, verdictWord_eq_or, hcode]
  rfl

/-! ### The egress mask of a list (30_encoding.md R70) -/

theorem getLsbD_ifaceBit (e f : IfaceId) : (ifaceBit e).getLsbD f.toNat = decide (f = e) := by
  have hf := f.isLt
  rw [ifaceBit, BitVec.natCast_eq_ofNat, BitVec.getLsbD_ofNat, Nat.one_shiftLeft, Nat.testBit_two_pow]
  simp [hf, BitVec.toNat_inj, eq_comm]

theorem getLsbD_ifaceMask (es : List IfaceId) (f : IfaceId) : (ifaceMask es).getLsbD f.toNat = decide (f ∈ es) := by
  have hfold : ∀ m : Half, (es.foldl (fun m e => m ||| ifaceBit e) m).getLsbD f.toNat =
      (m.getLsbD f.toNat || decide (f ∈ es)) := by
    induction es with
    | nil => simp
    | cons e es ih =>
      intro m
      simp [ih, getLsbD_ifaceBit, Bool.or_assoc]
  rw [ifaceMask, hfold]
  simp

/-- A flood marks and serves each interface of the flood set once, and no other (R182). -/
theorem flood_serves (s : State) (i : IfaceId) (F : Frame) (e : IfaceId) :
    if e.toNat < s.params.nIf ∧ (s.ifAt e).en = true ∧ e ≠ i then
      (ifaceMask (s.floodSet i)).getLsbD e.toNat = true ∧
        PerIface.get (emitAll (s.floodSet i) F s).txLog e = PerIface.get s.txLog e ++ [F]
    else (ifaceMask (s.floodSet i)).getLsbD e.toNat = false ∧
        PerIface.get (emitAll (s.floodSet i) F s).txLog e = PerIface.get s.txLog e := by
  have hmem := mem_floodSet s i e
  split
  · next h => simp [getLsbD_ifaceMask, emitAll_txLog, floodSet_nodup, hmem.mpr h]
  · next h => simp [getLsbD_ifaceMask, emitAll_txLog, floodSet_nodup, mt hmem.mp h]

/-- Settles O56: the three ends of the forward step, with the responses written out. -/
theorem forwardStepOfFrame : Obligations.ForwardStepOfFrame := by
  intro s A rest p hs hp
  rw [step_of_pending hs hp]
  have hit := forwardStep_of_hit (s := { s with schedule := rest, agent := A }) (p := p)
  have miss := forwardStep_of_miss (s := { s with schedule := rest, agent := A }) (p := p)
  have serves := flood_serves (setPend A none { s with schedule := rest, agent := A }) p.iface p.bytes
  refine ⟨fun hoff => congrArg _ (forwardStep_of_off hoff), fun hrun hmode => ⟨fun j hj => ?_, fun hmiss => ?_⟩⟩
  · exact congrArg _ ((hit hrun hmode hj).trans (forwardHit_eq_answeredWith ..))
  · exact ⟨_, _, congrArg _ ((miss hrun hmode hmiss).trans (flood_eq_answeredWith ..)), serves⟩

end Sys2Proof.Machine

/-! ## A `TICK` and its sweep (45_learning_switch.md R190, R191) -/

namespace Sys2Proof.Machine

theorem step_of_timer {s : State} {rest : List Turn} (hs : s.schedule = .timer :: rest) :
    step s = .next (tick { s with schedule := rest }) := by
  simp only [step, nextStep, hs, runTurn]

/-! ### When a sweep is due, and what it empties -/

theorem sweepDue_iff (s : State) : s.sweepDue = true ↔
    s.ctrl.getLsbD 0 = true ∧ s.ctrl.getLsbD 2 = true ∧ s.sweepPeriod.toNat ≤ (s.time - s.sweepLast).toNat := by
  rw [State.sweepDue, Bool.and_eq_true, Bool.and_eq_true, decide_eq_true_iff, BitVec.le_def,
    BitVec.toNat_setWidth_of_le (by decide), and_assoc]
  rfl

theorem staleAt_eq (now : Stamp) (limit : Word) (x : MtSlot) :
    staleAt now limit x = (x.v && decide (limit.toNat < (now - x.lastSeen).toNat)) := by
  simp only [staleAt, BitVec.lt_def, BitVec.toNat_setWidth_of_le (show 32 ≤ 64 by decide)]

theorem tick_of_not_due {s : State} (h : ¬ (advanceTime s).sweepDue = true) : tick s = advanceTime s := if_neg h

theorem tick_of_due {s : State} (h : (advanceTime s).sweepDue = true) :
    tick s = countSweep (markSweep (sweep (advanceTime s))) := if_pos h

/-- Settles O58: the two ends of a tick, with the condition and the stale slots as numbers. -/
theorem tickAndSweep : Obligations.TickAndSweep := by
  intro s rest hs
  have hdue := sweepDue_iff (advanceTime { s with schedule := rest })
  simp only [← staleAt_eq, step_of_timer hs]
  refine ⟨fun hnot => congrArg _ (tick_of_not_due (mt hdue.mp hnot)), fun h => ?_⟩
  refine ⟨_, congrArg _ (tick_of_due (hdue.mpr h)), List.length_map .., fun j x hj => ?_⟩
  exact (List.getElem?_map ..).trans (congrArg _ hj)

end Sys2Proof.Machine

/-! ## The life of an entry (45_learning_switch.md R192) -/

namespace Sys2Proof.Machine

/-! ### A run of ticks -/

@[simp] theorem tick_ctrl (s : State) : (tick s).ctrl = s.ctrl := by
  obtain ⟨-, h⟩ | ⟨-, h⟩ := tick_cases s <;> rw [h] <;> rfl

@[simp] theorem tick_ageLimit (s : State) : (tick s).ageLimit = s.ageLimit := by
  obtain ⟨-, h⟩ | ⟨-, h⟩ := tick_cases s <;> rw [h] <;> rfl

@[simp] theorem tick_sweepPeriod (s : State) : (tick s).sweepPeriod = s.sweepPeriod := by
  obtain ⟨-, h⟩ | ⟨-, h⟩ := tick_cases s <;> rw [h] <;> rfl

/-- A tick neither reads nor writes the schedule. -/
theorem tick_withSchedule (s : State) (r : List Turn) :
    tick { s with schedule := r } = { tick s with schedule := r } := by
  obtain ⟨hdue, h⟩ | ⟨hdue, h⟩ := tick_cases s
  · rw [h]; exact tick_of_not_due (Bool.eq_false_iff.mp hdue)
  · rw [h]; exact tick_of_due hdue

theorem run_succ_of_step {M : Host.Core} {s t : M.State} (h : M.step s = .next t) (n : Nat) :
    M.run (n + 1) s = M.run n t := by
  rw [Host.Core.run, h]

/-- `n` turns of the timer are `n` ticks. -/
theorem run_timers {n : Nat} {s : State} {rest : List Turn} (hs : s.schedule = List.replicate n .timer ++ rest) :
    Host.Core.run core n s = .next (tick^[n] { s with schedule := rest }) := by
  induction n generalizing s with
  | zero =>
    obtain rfl : s.schedule = rest := hs
    rfl
  | succ n ih =>
    rw [List.replicate_succ, List.cons_append] at hs
    have hrun := ih (s := { tick s with schedule := List.replicate n .timer ++ rest }) rfl
    rw [run_succ_of_step (M := core) (step_of_timer hs), tick_withSchedule s (List.replicate n Turn.timer ++ rest),
      Function.iterate_succ_apply, tick_withSchedule s rest]
    exact hrun

theorem iterate_tick_of_empty {s : State} {j : Nat} (h : s.mtAt j = MtSlot.empty) (n : Nat) :
    (tick^[n] s).mtAt j = MtSlot.empty := by
  induction n generalizing s with
  | zero => exact h
  | succ n ih => exact ih ((mtAt_tick_cases s j).elim (fun hk => hk.trans h) id)

/-! ### Ageing while nothing wraps -/

/-- The engine runs with ageing on, and neither `SWEEP_LAST` nor the time of slot `j` is after `TIME`. -/
structure State.Ageing (s : State) (j : Nat) : Prop where
  run : s.ctrl.getLsbD 0 = true
  enabled : s.ctrl.getLsbD 2 = true
  swept : s.sweepLast.toNat ≤ s.time.toNat
  seen : (s.mtAt j).lastSeen.toNat ≤ s.time.toNat

namespace State.Ageing

section
variable {s : State} {j : Nat}

/-- How long ago a time `x` was that is not after `TIME`, at the next tick. -/
theorem toNat_age (hwrap : s.time.toNat + 1 < 2 ^ 64) {x : Stamp} (hx : x.toNat ≤ s.time.toNat) :
    (s.time + 1 - x).toNat = s.time.toNat + 1 - x.toNat := by
  rw [BitVec.toNat_sub_of_le, toNat_time_add_one hwrap]
  rw [BitVec.le_def, toNat_time_add_one hwrap]
  exact Nat.le_succ_of_le hx

theorem sweepDue_iff (h : s.Ageing j) (hwrap : s.time.toNat + 1 < 2 ^ 64) :
    (advanceTime s).sweepDue = true ↔ s.sweepLast.toNat + s.sweepPeriod.toNat ≤ s.time.toNat + 1 := by
  have hage := toNat_age hwrap h.swept
  have hswept := h.swept
  simp only [Machine.sweepDue_iff, advanceTime_ctrl, advanceTime_sweepPeriod, advanceTime_time, advanceTime_sweepLast,
    h.run, h.enabled, hage, true_and]
  omega

theorem staleAt_iff (h : s.Ageing j) (hwrap : s.time.toNat + 1 < 2 ^ 64) :
    staleAt (s.time + 1) s.ageLimit (s.mtAt j) = true ↔
      (s.mtAt j).v = true ∧ (s.mtAt j).lastSeen.toNat + s.ageLimit.toNat < s.time.toNat + 1 := by
  have hage := toNat_age hwrap h.seen
  have hseen := h.seen
  rw [staleAt_eq, Bool.and_eq_true, decide_eq_true_iff, hage]
  refine and_congr_right fun _ => ?_
  omega

/-- What a tick does to `SWEEP_LAST` and to slot `j`: nothing before the period is over, then the sweep. -/
theorem tick_cases (h : s.Ageing j) (hwrap : s.time.toNat + 1 < 2 ^ 64) :
    (s.time.toNat + 1 < s.sweepLast.toNat + s.sweepPeriod.toNat ∧
      (tick s).sweepLast = s.sweepLast ∧ (tick s).mtAt j = s.mtAt j) ∨
    (s.sweepLast.toNat + s.sweepPeriod.toNat ≤ s.time.toNat + 1 ∧ (tick s).sweepLast = s.time + 1 ∧
      (tick s).mtAt j = if (s.mtAt j).v = true ∧ (s.mtAt j).lastSeen.toNat + s.ageLimit.toNat < s.time.toNat + 1
        then MtSlot.empty else s.mtAt j) := by
  obtain ⟨hdue, he⟩ | ⟨hdue, he⟩ := Machine.tick_cases s
  · have hearly := (not_congr (h.sweepDue_iff hwrap)).mp (Bool.eq_false_iff.mp hdue)
    exact .inl ⟨not_le.mp hearly, by rw [he]; rfl, by rw [he]; rfl⟩
  · refine .inr ⟨(h.sweepDue_iff hwrap).mp hdue, by rw [he]; rfl, ?_⟩
    rw [he]
    refine (mtAt_sweep (advanceTime s) j).trans ?_
    exact if_congr (h.staleAt_iff hwrap) rfl rfl

theorem tick (h : s.Ageing j) (hwrap : s.time.toNat + 1 < 2 ^ 64) : (tick s).Ageing j := by
  have htime := toNat_tick_time hwrap
  have hswept := h.swept
  have hseen := h.seen
  refine ⟨by rw [tick_ctrl]; exact h.run, by rw [tick_ctrl]; exact h.enabled, ?_, ?_⟩
  · obtain ⟨-, hlast, -⟩ | ⟨-, hlast, -⟩ := h.tick_cases hwrap
    · rw [hlast, htime]; omega
    · rw [hlast, htime, toNat_time_add_one hwrap]
  · obtain hj | hj := mtAt_tick_cases s j
    · rw [hj, htime]; omega
    · rw [hj]; exact Nat.zero_le _

/-- Within `AGE_LIMIT` no sweep touches the entry. -/
theorem iterate_keeps {n : Nat} (h : s.Ageing j) (hwrap : s.time.toNat + n < 2 ^ 64)
    (hage : s.time.toNat + n ≤ (s.mtAt j).lastSeen.toNat + s.ageLimit.toNat) :
    (Machine.tick^[n] s).mtAt j = s.mtAt j := by
  induction n generalizing s with
  | zero => rfl
  | succ n ih =>
    have hwrap1 : s.time.toNat + 1 < 2 ^ 64 := by omega
    have htime := toNat_tick_time hwrap1
    have hkept : (Machine.tick s).mtAt j = s.mtAt j := by
      obtain ⟨-, -, hj⟩ | ⟨-, -, hj⟩ := h.tick_cases hwrap1
      · exact hj
      · rw [hj, if_neg (by omega)]
    rw [Function.iterate_succ_apply, ih (h.tick hwrap1) (by omega) (by rw [hkept, tick_ageLimit]; omega), hkept]

/-- A valid entry is gone after `n` ticks when a sweep falls into them and a whole period lies between the last
time at which the entry must live and the last tick. -/
theorem iterate_empties {n : Nat} (h : s.Ageing j) (hwrap : s.time.toNat + n < 2 ^ 64) (hv : (s.mtAt j).v = true)
    (hn : 1 ≤ n) (hsweep : s.sweepLast.toNat + s.sweepPeriod.toNat ≤ s.time.toNat + n)
    (hage : (s.mtAt j).lastSeen.toNat + s.ageLimit.toNat + max s.sweepPeriod.toNat 1 ≤ s.time.toNat + n) :
    (Machine.tick^[n] s).mtAt j = MtSlot.empty := by
  induction n generalizing s with
  | zero => omega
  | succ n ih =>
    have hwrap1 : s.time.toNat + 1 < 2 ^ 64 := by omega
    have htime := toNat_tick_time hwrap1
    have hnext := h.tick hwrap1
    rw [Function.iterate_succ_apply]
    obtain ⟨hearly, hlast, hj⟩ | ⟨hdue, hlast, hj⟩ := h.tick_cases hwrap1
    · refine ih hnext (by omega) (hj ▸ hv) (by omega) ?_ ?_
      · rw [hlast, htime, tick_sweepPeriod]; omega
      · rw [hj, htime, tick_ageLimit, tick_sweepPeriod]; omega
    · split at hj
      · exact iterate_tick_of_empty hj n
      · next hyoung =>
        have hlimit : s.time.toNat + 1 ≤ (s.mtAt j).lastSeen.toNat + s.ageLimit.toNat :=
          not_lt.mp fun hold => hyoung ⟨hv, hold⟩
        refine ih hnext (by omega) (hj ▸ hv) (by omega) ?_ ?_
        · rw [hlast, htime, toNat_time_add_one hwrap1, tick_sweepPeriod]; omega
        · rw [hj, htime, tick_ageLimit, tick_sweepPeriod]; omega

end
end State.Ageing

/-- Settles O59: the run is `n` ticks; a whole period of them holds a sweep, since `SWEEP_LAST` is not after
`TIME`. -/
theorem entryLifetime : Obligations.EntryLifetime := by
  intro s n j rest hs hrun henabled hv hseen hswept hwrap
  have h : { s with schedule := rest }.Ageing j := ⟨hrun, henabled, hswept, hseen⟩
  refine ⟨_, run_timers hs, h.iterate_keeps hwrap, fun hperiod hage => ?_⟩
  have hsweep : s.sweepLast.toNat + s.sweepPeriod.toNat ≤ s.time.toNat + n := by omega
  exact h.iterate_empties hwrap hv (by omega) hsweep hage

end Sys2Proof.Machine

/-! ## What a step of an agent keeps of the others and of `HOST`'s state (60_exceptions.md R209) -/

namespace Sys2Proof.Machine

/-! ### The step of an issuing agent -/

/-- The three ways the turn of an agent completes: its forward step, an idle turn, or its next descriptor. -/
theorem agentStep_cases {s t : State} {A : Issuer} {rest : List Turn} (hs : s.schedule = .agent A :: rest)
    (h : step s = .next t) :
    (∃ p, s.pend.get A = some p ∧ t = forwardStep p { s with schedule := rest, agent := A }) ∨
    (t = { s with schedule := rest }) ∨
    (∃ d ds, s.pend.get A = none ∧ s.queue.get A = d :: ds ∧ mayIssue s.params A d = true ∧
      issue A d { s with schedule := rest, queue := s.queue.set A ds } = .next t) := by
  obtain ⟨hs', -⟩ | ⟨_, hs', -⟩ | ⟨_, hs', -⟩ | ⟨B, rest', p, hs', hp, hst⟩ | ⟨B, rest', hs', -, -, hst⟩ |
    ⟨B, rest', d, ds, hs', hp, hq, hm, hst⟩ | ⟨B, rest', d, ds, hs', -, -, -, hst⟩ := step_cases s <;>
    cases hs.symm.trans hs'
  · exact .inl ⟨p, hp, Host.Outcome.next.inj (h.symm.trans hst)⟩
  · exact .inr (.inl (Host.Outcome.next.inj (h.symm.trans hst)))
  · exact .inr (.inr ⟨d, ds, hp, hq, hm, hst.symm.trans h⟩)
  · cases h.symm.trans hst

/-! ### How a frame ends -/

/-- `u` is `s` after the writes with which a `FRAME` ends, before its `OK` response: one verdict counter has moved
(60_exceptions.md R203, R210), and no log of responses and no latch is written yet. -/
structure FrameEnded (s u : State) : Prop where
  responses : u.responses = s.responses
  pend : u.pend = s.pend
  agent : u.agent = s.agent
  total : u.frameTotal = s.frameTotal + 1

namespace FrameEnded

theorem countDrop (c : DropCause) (s : State) : FrameEnded s (countDrop c s) where
  responses := rfl
  pend := rfl
  agent := rfl
  total := by
    have hsum : (Machine.countDrop c s).counters.drop.toList.sum = s.counters.drop.toList.sum + 1 := by
      simp [Machine.countDrop, Counters.dropCount, Vector.toList_set, List.sum_set', Vector.get_eq_getElem]
    simp only [State.frameTotal, hsum, ← add_assoc]
    rfl

theorem countRouted (s : State) : FrameEnded s (countRouted s) :=
  ⟨rfl, rfl, rfl, by simp only [State.frameTotal, Machine.countRouted]; ring⟩

theorem countSwitched (s : State) : FrameEnded s (countSwitched s) :=
  ⟨rfl, rfl, rfl, by simp only [State.frameTotal, Machine.countSwitched]; ring⟩

theorem countFlooded (s : State) : FrameEnded s (countFlooded s) :=
  ⟨rfl, rfl, rfl, by simp only [State.frameTotal, Machine.countFlooded]; ring⟩

end FrameEnded

theorem raiseDrop_ended (c : DropCause) (s : State) :
    ∃ ws u, FrameEnded s u ∧ raiseDrop c s = respondOk .frame ws u := ⟨_, _, .countDrop c s, rfl⟩

/-- The first step of a frame answers `OK`, or it is the learn step. -/
theorem frameStep_ends (F : Frame) (i : IfaceId) (s : State) :
    (∃ ws u, FrameEnded s u ∧ frameStep F i s = respondOk .frame ws u) ∨ frameStep F i s = learnStep F i s := by
  obtain ⟨c, h⟩ | ⟨e, F', -, -, -, h⟩ | ⟨-, -, -, -, h⟩ := frameStep_cases F i s
  · rw [h]; exact .inl (raiseDrop_ended c s)
  · exact .inl ⟨_, _, { FrameEnded.countRouted (emitTx e F' s) with }, h⟩
  · exact .inr h

/-- The forward step empties the latch and answers `OK`. -/
theorem forwardStep_ends (p : Pending) (s : State) :
    ∃ ws u, FrameEnded (setPend s.agent none s) u ∧ forwardStep p s = respondOk .frame ws u := by
  obtain h | ⟨j, -, h⟩ | ⟨-, h⟩ := forwardStep_cases p s
  · rw [h]; exact raiseDrop_ended ..
  · exact ⟨_, _, { FrameEnded.countSwitched (emitTx (s.mtAt j).iface p.bytes (setPend s.agent none s)) with }, h⟩
  · refine ⟨_, _, ?_, h⟩
    rw [emitAll_frame]
    exact { FrameEnded.countFlooded (setPend s.agent none s) with }

/-! ### Logs and latches of the other agents -/

/-- From `s` to `t` no agent but `A` has its response log or its latch changed. -/
def OthersKept (A : Issuer) (s t : State) : Prop :=
  ∀ B, B ≠ A → t.responses.get B = s.responses.get B ∧ t.pend.get B = s.pend.get B

namespace OthersKept

/-- An update that sets the log of `A` and writes no latch. -/
theorem of_set_responses {A : Issuer} {s t : State} {log : List (List Word)}
    (hr : t.responses = s.responses.set A log) (hp : t.pend = s.pend) : OthersKept A s t := fun B hB => by
  rw [hr, hp, PerIssuer.get_set, if_neg hB.symm]
  exact ⟨rfl, rfl⟩

/-- An update that sets the latch of `A` and writes no log. -/
theorem of_set_pend {A : Issuer} {s t : State} {p : Option Pending} (hr : t.responses = s.responses)
    (hp : t.pend = s.pend.set A p) : OthersKept A s t := fun B hB => by
  rw [hr, hp, PerIssuer.get_set, if_neg hB.symm]
  exact ⟨rfl, rfl⟩

theorem refl (A : Issuer) (s : State) : OthersKept A s s := fun _ _ => ⟨rfl, rfl⟩

theorem trans {A : Issuer} {s t u : State} (hst : OthersKept A s t) (htu : OthersKept A t u) : OthersKept A s u :=
  fun B hB => ⟨(htu B hB).1.trans (hst B hB).1, (htu B hB).2.trans (hst B hB).2⟩

theorem exec {i : Instr} {s t : State} (h : exec i s = .next t) : OthersKept s.agent s t := by
  obtain ⟨t', h', hp, st, ws, hr⟩ | ⟨a, F, -, h'⟩ := exec_answers_or_learns i s <;>
    obtain rfl := Host.Outcome.next.inj (h.symm.trans h')
  · exact of_set_responses hr hp
  · exact of_set_pend (learnStep_responses ..) (learnStep_pend ..)

theorem issue {A : Issuer} {d : Descriptor} {s t : State} (h : issue A d s = .next t) : OthersKept A s t := by
  obtain ⟨i, -, hi⟩ | ⟨e, -, he⟩ := issue_cases A d s
  · exact exec (hi.symm.trans h)
  · obtain rfl := Host.Outcome.next.inj (h.symm.trans he)
    exact of_set_responses rfl rfl

/-- The latch that is emptied and the log that gets the verdict are the agent's own. -/
theorem forwardStep (p : Pending) (s : State) : OthersKept s.agent s (forwardStep p s) := by
  obtain ⟨ws, u, hu, h⟩ := forwardStep_ends p s
  have answered : Answers .frame (setPend s.agent none s) (Machine.forwardStep p s) :=
    h ▸ .respondOk hu.pend hu.responses hu.agent .frame ws
  obtain ⟨hp, st, ws', hr⟩ := answered
  have emptied : OthersKept s.agent s (setPend s.agent none s) := of_set_pend rfl rfl
  exact emptied.trans (of_set_responses hr hp)

/-- Whatever the agent does in its turn, `SOFT_RESET` included (40_control_ops.md R97). -/
theorem step {s t : State} {A : Issuer} {rest : List Turn} (hs : s.schedule = .agent A :: rest)
    (h : step s = .next t) : OthersKept A s t := by
  obtain ⟨p, -, rfl⟩ | rfl | ⟨d, ds, -, -, -, hi⟩ := agentStep_cases hs h
  · exact forwardStep p { s with schedule := rest, agent := A }
  · exact refl A s
  · have kept := issue hi
    exact kept

end OthersKept

/-! ### What only `HOST` and the `TIMER` write -/

/-- From `s` to `t` every host-loaded table, every control register but `STATUS`, the times, the parameters and the
inputs keep their values (60_exceptions.md R209). -/
structure HostStateKept (s t : State) : Prop where
  params : t.params = s.params
  ctrl : t.ctrl = s.ctrl
  ageLimit : t.ageLimit = s.ageLimit
  sweepPeriod : t.sweepPeriod = s.sweepPeriod
  time : t.time = s.time
  sweepLast : t.sweepLast = s.sweepLast
  rt : t.rt = s.rt
  nb : t.nb = s.nb
  ifs : t.ifs = s.ifs
  schedule : t.schedule = s.schedule
  queue : t.queue = s.queue

namespace HostStateKept

theorem refl (s : State) : HostStateKept s s := ⟨rfl, rfl, rfl, rfl, rfl, rfl, rfl, rfl, rfl, rfl, rfl⟩

theorem raiseCmdErr (op : Byte) (st : CmdStatus) (s : State) : HostStateKept s (raiseCmdErr op st s) :=
  { refl s with }

theorem raiseDrop (c : DropCause) (s : State) : HostStateKept s (raiseDrop c s) := { refl s with }

theorem learnStep (F : Frame) (i : IfaceId) (s : State) : HostStateKept s (learnStep F i s) := by
  rw [Machine.learnStep, mtLearn_frame]
  exact { refl s with }

theorem flood (F : Frame) (i : IfaceId) (s : State) : HostStateKept s (flood F i s) := by
  rw [Machine.flood, emitAll_frame]
  exact { refl s with }

theorem frameStep (F : Frame) (i : IfaceId) (s : State) : HostStateKept s (frameStep F i s) := by
  obtain ⟨c, h⟩ | ⟨e, F', -, -, -, h⟩ | ⟨-, -, -, -, h⟩ := frameStep_cases F i s
  · rw [h]; exact raiseDrop c s
  · rw [h]; exact { refl s with }
  · rw [h]; exact learnStep F i s

theorem forwardStep (p : Pending) (s : State) : HostStateKept s (forwardStep p s) := by
  obtain h | ⟨j, -, h⟩ | ⟨-, h⟩ := forwardStep_cases p s
  · rw [h]; exact { refl s with }
  · rw [h]; exact { refl s with }
  · rw [h]; exact { flood p.bytes p.iface (setPend s.agent none s) with }

end HostStateKept

/-! ### What an `RX` agent issues -/

theorem eq_frame_of_opcode {i : Instr} (h : i.opcode = .frame) : ∃ a F, i = .frame a F := by
  cases i with
  | frame a F => exact ⟨a, F, rfl⟩
  | nop | ctrlRd | ctrlWr | timeRd | softReset | ifWr | ifRd | rtWr | rtRd | rtClr | rtLkup
  | nbWr | nbRd | nbClr | nbLkup | mtRd | mtLkup | csum | hdrVfy => cases h

/-- A `FRAME` is not among the instructions that `Written` speaks of. -/
theorem Written.opcode_ne_frame {s u : State} {i : Instr} (h : Written s i u) : i.opcode ≠ .frame := by
  intro hi
  obtain ⟨a, F, rfl⟩ := eq_frame_of_opcode hi
  cases h with
  | same hr => cases hr

/-- A descriptor that an `RX` agent may issue decodes to nothing but a `FRAME` (00_scope.md R4). -/
theorem opcode_of_mayIssue_rx {p : Params} {e : IfaceId} {d : Descriptor} {i : Instr}
    (hm : mayIssue p (.rx e) d = true) (hd : decode d = .ok i) : i.opcode = .frame := by
  obtain ⟨op, hop, -, rfl⟩ := decode_ok hd
  have hbyte : headerOp d.header = Opcode.frame.byte := by
    simp only [mayIssue, Bool.and_eq_true, beq_iff_eq] at hm
    obtain ⟨⟨⟨⟨-, hop'⟩, -⟩, -⟩, -⟩ := hm
    exact hop'
  rw [hbyte, Opcode.ofByte_byte] at hop
  rw [opcode_assemble, Option.some.inj hop]

namespace HostStateKept

theorem exec_frame {i : Instr} {s t : State} (hi : i.opcode = .frame) (h : exec i s = .next t) :
    HostStateKept s t := by
  obtain ⟨st, -, hr⟩ | ⟨ws, u, hw, -⟩ | ⟨a, F, -, -, -, -, hr⟩ := exec_cases i s
  · obtain rfl := Host.Outcome.next.inj (h.symm.trans hr)
    exact raiseCmdErr ..
  · exact absurd hi hw.opcode_ne_frame
  · obtain rfl := Host.Outcome.next.inj (h.symm.trans hr)
    exact frameStep ..

theorem issue_rx {p : Params} {e : IfaceId} {d : Descriptor} {s t : State} (hm : mayIssue p (.rx e) d = true)
    (h : issue (.rx e) d s = .next t) : HostStateKept s t := by
  obtain ⟨i, hd, hi⟩ | ⟨err, -, he⟩ := issue_cases (.rx e) d s
  · exact { exec_frame (opcode_of_mayIssue_rx hm hd) (hi.symm.trans h) with }
  · obtain rfl := Host.Outcome.next.inj (h.symm.trans he)
    exact { raiseCmdErr (headerOp d.header) (decodeStatus err) s with }

/-- The turn of `RX[e]` takes itself from the schedule and at most the agent's own next descriptor. -/
theorem step_rx {s t : State} {e : IfaceId} {rest : List Turn} (hs : s.schedule = .agent (.rx e) :: rest)
    (h : step s = .next t) :
    ∃ q, (∀ B, B ≠ .rx e → q.get B = s.queue.get B) ∧ HostStateKept { s with schedule := rest, queue := q } t := by
  obtain ⟨p, -, rfl⟩ | rfl | ⟨d, ds, -, -, hm, hi⟩ := agentStep_cases hs h
  · exact ⟨s.queue, fun _ _ => rfl, { forwardStep p { s with schedule := rest, agent := .rx e } with }⟩
  · exact ⟨s.queue, fun _ _ => rfl, refl _⟩
  · refine ⟨s.queue.set (.rx e) ds, fun B hB => ?_, issue_rx hm hi⟩
    rw [PerIssuer.get_set, if_neg hB.symm]

end HostStateKept

/-- Settles O17: `RX[i]` issues nothing but a `FRAME`, whose steps write `MT`, counters, `STATUS`, the transmit logs,
and the log and the latch of the agent itself. -/
theorem rxStepCannotWriteHostState : Obligations.RxStepCannotWriteHostState := by
  intro s t i rest hs h
  obtain ⟨q, hq, kept⟩ := HostStateKept.step_rx hs h
  refine ⟨kept.params, kept.ctrl, kept.ageLimit, kept.sweepPeriod, kept.time, kept.sweepLast, kept.rt, kept.nb,
    kept.ifs, kept.schedule, fun B hB => ?_⟩
  obtain ⟨hresponses, hpend⟩ := OthersKept.step hs h B hB
  exact ⟨hresponses, hpend, by rw [kept.queue]; exact hq B hB⟩

end Sys2Proof.Machine

/-! ## A failed instruction only sets `STATUS.CMD_ERR` (60_exceptions.md R206; 30_encoding.md R69) -/

namespace Sys2Proof.Machine

theorem statusWord_code (op : Byte) (st : CmdStatus) : (statusWord op st).extractLsb' 0 8 = st.code :=
  BitVec.extractLsb'_append_eq_right

/-- The record that one update appends to the log of `A` can be read off the log. -/
theorem appended_inj {A : Issuer} {v : PerIssuer (List (List Word))} {r r' : List Word}
    (h : v.set A (v.get A ++ [r]) = v.set A (v.get A ++ [r'])) : r = r' := by
  have hlog := congrArg (fun x => x.get A) h
  simpa using hlog

/-- No log gets longer by nothing. -/
theorem ne_appended (A : Issuer) (v : PerIssuer (List (List Word))) (r : List Word) :
    v ≠ v.set A (v.get A ++ [r]) := by
  intro h
  have hlog := congrArg (fun x => x.get A) h
  simp at hlog

/-- The writes of an instruction before its response touch neither the response logs nor the agent. -/
theorem Written.responses_eq {s u : State} {i : Instr} (h : Written s i u) : u.responses = s.responses := by
  cases h <;> rfl

theorem Written.agent_eq {s u : State} {i : Instr} (h : Written s i u) : u.agent = s.agent := by
  cases h <;> rfl

/-- The three ends of an instruction as its log shows them: a command error, one record with status `OK`, or the
learn step, which answers nothing yet. -/
theorem exec_ends (i : Instr) (s : State) :
    (∃ st, st ≠ .ok ∧ exec i s = .next (raiseCmdErr i.opcode.byte st s)) ∨
    (∃ ws t, exec i s = .next t ∧
      t.responses = s.responses.set s.agent (s.responses.get s.agent ++ [statusWord i.opcode.byte .ok :: ws])) ∨
    (∃ t, exec i s = .next t ∧ t.responses = s.responses) := by
  obtain ⟨st, hst, h⟩ | ⟨ws, u, hw, h⟩ | ⟨a, F, rfl, -, -, -, h⟩ := exec_cases i s
  · exact .inl ⟨st, hst, h⟩
  · exact .inr (.inl ⟨ws, _, h, by rw [respondOk_responses, hw.responses_eq, hw.agent_eq]⟩)
  · obtain ⟨ws, u, hu, hf⟩ | hl := frameStep_ends F (ifaceOfA a) s
    · exact .inr (.inl ⟨ws, _, h, by rw [hf, respondOk_responses, hu.responses, hu.agent]; rfl⟩)
    · exact .inr (.inr ⟨_, h, by rw [hl, learnStep_responses]⟩)

/-- Settles O9: of the ends of `exec_ends` only the command error has a record whose status is not `OK`. -/
theorem failedDescriptorOnlySetsCmdErr : Obligations.FailedDescriptorOnlySetsCmdErr := by
  intro i s t w ws h hr hw
  obtain ⟨st, -, he⟩ | ⟨ws', t', he, hr'⟩ | ⟨t', he, hr'⟩ := exec_ends i s <;>
    obtain rfl := Host.Outcome.next.inj (h.symm.trans he)
  · obtain ⟨rfl, rfl⟩ := List.cons.inj (appended_inj hr)
    exact ⟨rfl, statusWord_op .., statusWord_zeros .., rfl⟩
  · obtain ⟨rfl, -⟩ := List.cons.inj (appended_inj (hr.symm.trans hr'))
    exact absurd (statusWord_code ..) hw
  · exact (ne_appended _ _ _ (hr'.symm.trans hr)).elim

end Sys2Proof.Machine

/-! ## The verdict counters count the frames that end with `OK` (60_exceptions.md R210) -/

namespace Sys2Proof.Machine

/-! ### Which records are counted -/

/-- The header byte of `FRAME` and status `OK` make up the word 80000000, and no others do. -/
theorem statusWord_eq_okFrame_iff (op : Byte) (st : CmdStatus) :
    statusWord op st = 0x80000000 ↔ op = Opcode.frame.byte ∧ st = .ok := by
  refine ⟨fun h => ⟨?_, ?_⟩, ?_⟩
  · rw [← statusWord_op op st, h]; rfl
  · by_contra hst
    refine st.code_ne_zero hst ?_
    rw [← statusWord_code op st, h]; rfl
  · rintro ⟨rfl, rfl⟩
    rfl

theorem opcode_byte_inj {op op' : Opcode} (h : op.byte = op'.byte) : op = op' := by
  rw [← Option.some_inj, ← Opcode.ofByte_byte, h, Opcode.ofByte_byte]

theorem okFrames_append (log : List (List Word)) (w : Word) (ws : List Word) :
    okFrames (log ++ [w :: ws]) = okFrames log + if w = 0x80000000 then 1 else 0 := by
  simp [okFrames, List.countP_append, List.countP_singleton]

/-! ### The relation -/

/-- From `s` to `t` the verdict counters and the records of `A` that are counted move by one amount. -/
def FramesCounted (A : Issuer) (s t : State) : Prop :=
  t.frameTotal + BitVec.ofNat 32 (okFrames (s.responses.get A)) =
    s.frameTotal + BitVec.ofNat 32 (okFrames (t.responses.get A))

namespace FramesCounted

theorem of_eq {A : Issuer} {s t : State} (hr : t.responses = s.responses) (ht : t.frameTotal = s.frameTotal) :
    FramesCounted A s t := by rw [FramesCounted, hr, ht]

/-- An update that appends one record, which is counted. -/
theorem of_counted {A : Issuer} {s t : State} {ws : List Word}
    (hr : t.responses = s.responses.set A (s.responses.get A ++ [0x80000000 :: ws]))
    (ht : t.frameTotal = s.frameTotal + 1) : FramesCounted A s t := by
  rw [FramesCounted, hr, ht, PerIssuer.get_set_self, okFrames_append, if_pos rfl, BitVec.ofNat_add]
  exact (add_right_comm ..).trans (add_assoc ..)

/-- An update that appends one record, which is not counted. -/
theorem of_uncounted {A : Issuer} {s t : State} {w : Word} {ws : List Word}
    (hr : t.responses = s.responses.set A (s.responses.get A ++ [w :: ws])) (hw : w ≠ 0x80000000)
    (ht : t.frameTotal = s.frameTotal) : FramesCounted A s t := by
  rw [FramesCounted, hr, ht, PerIssuer.get_set_self, okFrames_append, if_neg hw, Nat.add_zero]

/-! ### The ends of a descriptor or a frame -/

theorem raiseCmdErr (op : Byte) {st : CmdStatus} (hst : st ≠ .ok) (s : State) :
    FramesCounted s.agent s (raiseCmdErr op st s) :=
  of_uncounted rfl (fun hw => hst ((statusWord_eq_okFrame_iff op st).mp hw).2) rfl

/-- The `OK` response of a `FRAME` comes with the step of one verdict counter. -/
theorem respondOk_frame {s u : State} (hu : FrameEnded s u) (ws : List Word) :
    FramesCounted s.agent s (respondOk .frame ws u) := by
  refine of_counted (ws := ws) ?_ hu.total
  rw [respondOk_responses, hu.responses, hu.agent]
  rfl

/-- Of the writes of an instruction only those of an accepted `SOFT_RESET` touch a verdict counter. -/
theorem frameTotal_of_written {s u : State} {i : Instr} (h : Written s i u) (hi : ∀ a b, i ≠ .softReset a b) :
    u.frameTotal = s.frameTotal := by
  cases h with
  | reset => exact absurd rfl (hi _ _)
  | same | ctrl | start | status | ageLimit | sweepPeriod | iface | route | routes | neighbor | neighbors => rfl

/-- The `OK` response of any other instruction is not counted. -/
theorem respondOk_written {s u : State} {i : Instr} (h : Written s i u) (hi : ∀ a b, i ≠ .softReset a b)
    (ws : List Word) : FramesCounted s.agent s (respondOk i.opcode ws u) := by
  have uncounted : statusWord i.opcode.byte .ok ≠ 0x80000000 := fun hw =>
    h.opcode_ne_frame (opcode_byte_inj ((statusWord_eq_okFrame_iff _ _).mp hw).1)
  have total := frameTotal_of_written h hi
  refine of_uncounted (ws := ws) ?_ uncounted total
  rw [respondOk_responses, h.responses_eq, h.agent_eq]

/-- A learn moves no verdict counter: `CNT_LEARN_OVF` is none (10_state.md R19). -/
theorem frameTotal_mtLearn (m : LinkAddr) (i : IfaceId) (s : State) : (mtLearn m i s).frameTotal = s.frameTotal := by
  obtain ⟨j, -, h⟩ | ⟨j, -, -, h⟩ | ⟨-, -, h⟩ := mtLearn_cases m i s
  · rw [h]; rfl
  · rw [h]; rfl
  · rw [h]; rfl

theorem frameStep (F : Frame) (i : IfaceId) (s : State) : FramesCounted s.agent s (frameStep F i s) := by
  obtain ⟨ws, u, hu, h⟩ | h := frameStep_ends F i s
  · rw [h]; exact respondOk_frame hu ws
  · rw [h]; exact of_eq (learnStep_responses F i s) (frameTotal_mtLearn (smac F) i s)

theorem forwardStep (p : Pending) (s : State) : FramesCounted s.agent s (forwardStep p s) := by
  obtain ⟨ws, u, hu, h⟩ := forwardStep_ends p s
  rw [h]
  exact respondOk_frame hu ws

/-! ### The agents' steps -/

theorem exec {i : Instr} {s t : State} (hi : ∀ a b, i ≠ .softReset a b) (h : exec i s = .next t) :
    FramesCounted s.agent s t := by
  obtain ⟨st, hst, hr⟩ | ⟨ws, u, hw, hr⟩ | ⟨a, F, -, -, -, -, hr⟩ := exec_cases i s <;>
    obtain rfl := Host.Outcome.next.inj (h.symm.trans hr)
  · exact raiseCmdErr _ hst s
  · exact respondOk_written hw hi ws
  · exact frameStep F _ s

theorem issue {A : Issuer} {d : Descriptor} {s t : State} (hd : ∀ a b, decode d ≠ .ok (.softReset a b))
    (h : issue A d s = .next t) : FramesCounted A s t := by
  obtain ⟨i, hi, hr⟩ | ⟨e, -, hr⟩ := issue_cases A d s
  · exact exec (fun a b he => hd a b (he ▸ hi)) (hr.symm.trans h)
  · obtain rfl := Host.Outcome.next.inj (h.symm.trans hr)
    have failed : decodeStatus e ≠ .ok := by cases e <;> decide
    exact raiseCmdErr (headerOp d.header) failed { s with agent := A }

theorem step {s t : State} {A : Issuer} {rest : List Turn} (hs : s.schedule = .agent A :: rest)
    (hsoft : ¬ s.softResetNext) (h : step s = .next t) : FramesCounted A s t := by
  obtain ⟨p, -, rfl⟩ | rfl | ⟨d, ds, hp, hq, hm, hi⟩ := agentStep_cases hs h
  · exact forwardStep p { s with schedule := rest, agent := A }
  · exact of_eq rfl rfl
  · have counted := issue (fun a b hd => hsoft (softResetNext_of_decode hs hp hq hm hd)) hi
    exact counted

end FramesCounted

/-! ### The tick -/

/-- A tick moves no verdict counter and answers nothing: `CNT_EVICT` and `CNT_SWEEP` are none. -/
theorem tick_frameTotal_responses (s : State) :
    (tick s).frameTotal = s.frameTotal ∧ (tick s).responses = s.responses := by
  obtain ⟨-, h⟩ | ⟨-, h⟩ := tick_cases s
  · rw [h]; exact ⟨rfl, rfl⟩
  · rw [h]; exact ⟨rfl, rfl⟩

/-- Settles O20: each `OK` record of a `FRAME` comes with the step of one verdict counter, and nothing else but a
reset moves one. -/
theorem verdictCountersCountFrames : Obligations.VerdictCountersCountFrames := by
  intro s t h
  refine ⟨fun A rest hs hsoft => ⟨FramesCounted.step hs hsoft h, fun B hB => ?_⟩, fun rest hs => ?_⟩
  · obtain ⟨hresponses, -⟩ := OthersKept.step hs h B hB
    exact hresponses
  · obtain rfl := Host.Outcome.next.inj (h.symm.trans (step_of_timer hs))
    exact tick_frameTotal_responses { s with schedule := rest }

end Sys2Proof.Machine

/-! ## A hardware reset (70_reset_and_hazards.md R220, 10_state.md R27) -/

namespace Sys2Proof.Machine

theorem step_of_reset {s : State} {rest : List Turn} (hs : s.schedule = .reset :: rest) :
    step s = .next (hardReset { s with schedule := rest }) := by
  simp only [step, nextStep, hs, runTurn]

/-- The reset values do not speak of the latches, the one field in which the two resets differ. -/
theorem hardReset_atReset (s : State) : (hardReset s).AtReset := { softReset_atReset s with }

theorem hardReset_pend_get (s : State) (A : Issuer) : (hardReset s).pend.get A = none := by
  cases A with
  | host => rfl
  | rx i => exact PerIface.get_replicate ..

/-- Settles O25: a `reset` turn is a hard reset of the state whose schedule has moved on. -/
theorem hardwareResetState : Obligations.HardwareResetState := by
  intro s rest hs
  exact ⟨_, step_of_reset hs, hardReset_atReset _, hardReset_pend_get _, hardReset_params _, hardReset_responses _,
    hardReset_txLog _, hardReset_queue _, hardReset_schedule _⟩

end Sys2Proof.Machine

/-! ## The example rows (30_encoding.md section 6) -/

namespace Sys2Proof

/-- What an encodable instruction encodes to decodes back to it. -/
theorem decode_of_encode_eq {i : Instr} {d : Descriptor} (hfits : i.encodable = true) (hd : encode i = d) :
    decode d = .ok i :=
  hd ▸ decodeEncodeRoundTrip i hfits

/-- The header 8002002A of the `FRAME` row: opcode `FRAME`, interface 2, 42 bytes in eleven words. -/
theorem decode_exampleFrame {ws : List Word} (h : ws.length = 11) :
    decode ⟨0x8002002A, ws⟩ = .ok (.frame 2 (unpackBytes ws 42)) :=
  decode_descriptorOf (op := .frame) (a := 2) (b := 42) h

/-- Settles O4: every row but the last is the encoding of the instruction it stands for, padding 0 included; the
last is read for any payload words. -/
theorem exampleWordsDecode : Obligations.ExampleWordsDecode := by
  refine ⟨?nop, ?ctrlRd, ?ctrlWr, ?timeRd, ?softReset, ?ifWr, ?rtWr, ?rtLkup, ?nbWr, ?mtLkup, ?csum,
    fun ws h => ?frame⟩
  case nop | ctrlRd | ctrlWr | timeRd | softReset | ifWr | rtWr | rtLkup | nbWr | mtLkup | csum =>
    exact decode_of_encode_eq rfl rfl
  case frame => exact ⟨unpackBytes ws 42, length_unpackBytes h, decode_exampleFrame h⟩

end Sys2Proof
